-- ==== Sys2Proof/Word.lean ====
section
/-!
DEFINITION. The small types the whole model is written in: the numbered things of the part (00_scope.md,
"Document conventions") and a table of fixed length.
-/

namespace Sys2Proof

/-- A byte on a port (R180) or in the flash (R152). -/
abbrev Byte := BitVec 8

/-- A position, 0–15. -/
abbrev Pos := Fin 16

/-- A highway timeslot, 0–31. -/
abbrev Timeslot := Fin 32

/-- A coach source, 0–3. -/
abbrev Source := Fin 4

/-- A player, 0–5. -/
abbrev PlayerNo := Fin 6

/-- A request slot of a port, 0–3 (R183). -/
abbrev ReqSlot := Fin 4

/-- Port A and Port B. -/
inductive PortId where
  | a
  | b
  deriving DecidableEq, Repr

/-- The two cancellers of a position (R58). -/
inductive Canc where
  | line
  | acoustic
  deriving DecidableEq, Repr

/-- The two causes of a reset (R189). -/
inductive ResetCause where
  | powerOn
  | pin
  deriving DecidableEq, Repr

/-- A table with one entry for each index below `n`. -/
abbrev Table (n : Nat) (α : Type) := Vector α n

/-- The entry of a table at an index. -/
def look {n : Nat} {α : Type} (t : Table n α) (i : Fin n) : α := t[i.val]

/-- The table with one entry replaced. -/
def put {n : Nat} {α : Type} (t : Table n α) (i : Fin n) (x : α) : Table n α := t.set i.val x

/-- The table whose entries a function gives. -/
def table {n : Nat} {α : Type} (f : Fin n → α) : Table n α := Vector.ofFn f

@[simp] theorem look_put_same {n : Nat} {α : Type} (t : Table n α) (i : Fin n) (x : α) :
    look (put t i x) i = x := by
  simp [look, put]

@[simp] theorem look_put_ne {n : Nat} {α : Type} (t : Table n α) (i j : Fin n) (x : α) (h : j ≠ i) :
    look (put t i x) j = look t j := by
  have h' : i.val ≠ j.val := fun e => h (Fin.ext e.symm)
  simp [look, put, h']

theorem look_put {n : Nat} {α : Type} (t : Table n α) (i j : Fin n) (x : α) :
    look (put t i x) j = if j = i then x else look t j := by
  by_cases h : j = i
  · subst h; simp
  · simp [h]

@[simp] theorem look_table {n : Nat} {α : Type} (f : Fin n → α) (i : Fin n) :
    look (table f) i = f i := by
  simp [look, table]

@[simp] theorem look_replicate {n : Nat} {α : Type} (x : α) (i : Fin n) :
    look (Vector.replicate n x) i = x := by
  simp [look]

theorem table_ext {n : Nat} {α : Type} {t u : Table n α} (h : ∀ i, look t i = look u i) : t = u := by
  apply Vector.ext
  intro i hi
  exact h ⟨i, hi⟩

end Sys2Proof
end

