-- ==== Sys2Proof/Syntax.lean ====
section
/-!
DEFINITION. The commands: one constructor for each row of spec/opcode_table.json, in the table's order.

A request row (BIND_CALL to SUBSCRIBE) names the port and the request slot whose waiting request is taken (R183,
R184): the request's fields are the bytes that PORT_WRITE brought (R181). A notice row names the position whose
channel the notice stands at the head of (R3, R4): the notice's contents are in State. A row of the outside world
(a sync pulse, a link frame, the end of a flash operation) carries what the outside brings.
-/

namespace Sys2Proof

/-- The blocks of the part (00_scope.md, "Block overview"): who hands notices to whom and who raises events. The position
records and the link records stand one by one, since each takes and delivers in an order of its own (R3, R37). -/
inductive Block where
  | record (p : Pos)
  | link (p : Pos)
  | highway
  | slotMap
  | echo
  | supp
  | coach
  | seq
  | player
  | store
  deriving DecidableEq, Repr

/-- The 32 receive samples of one sample period, as 16-bit two's-complement words (R25). -/
abbrev RxPeriod := Vector (BitVec 16) 32

/-- A command of the part: a row of spec/opcode_table.json with its operands. -/
inductive Instr where
  /-- R189. The cause, and what the flash holds of the page or sector that a program or erase cut off by the reset was
  working on (bytes from its first address; addresses past the list keep their contents). -/
  | reset (cause : ResetCause) (torn : List Byte)
  /-- R180. A write transaction: every byte the master clocks after the kind byte, first the message, then the bytes on which the
  part sends the intake answer, then zeros. The three bytes of the answer are clocked whether the list goes that far or not. -/
  | portWrite (port : PortId) (msg : List Byte)
  /-- R180. A write transaction whose select rises early: every byte the master has clocked after the kind byte, fewer than three
  of them after the message. -/
  | transactionAborted (port : PortId) (msg : List Byte)
  /-- R180. A transaction of another kind: all its bytes. -/
  | ignoredTransaction (port : PortId) (bytes : List Byte)
  /-- R185. A read transaction: how many bytes the master clocks after the kind byte. -/
  | portRead (port : PortId) (clocks : Nat)
  /-- R184. -/
  | unknownRequest (port : PortId) (slot : ReqSlot)
  | bindCall (port : PortId) (slot : ReqSlot)
  | hold (port : PortId) (slot : ReqSlot)
  | setHold (port : PortId) (slot : ReqSlot)
  | unhold (port : PortId) (slot : ReqSlot)
  | clear (port : PortId) (slot : ReqSlot)
  | setMute (port : PortId) (slot : ReqSlot)
  | setPosition (port : PortId) (slot : ReqSlot)
  | setEcho (port : PortId) (slot : ReqSlot)
  | setSuppressor (port : PortId) (slot : ReqSlot)
  | setLink (port : PortId) (slot : ReqSlot)
  | linkEnable (port : PortId) (slot : ReqSlot)
  | linkDisable (port : PortId) (slot : ReqSlot)
  | linkRetrain (port : PortId) (slot : ReqSlot)
  | whisper (port : PortId) (slot : ReqSlot)
  | cancelWhisper (port : PortId) (slot : ReqSlot)
  | setCoachSource (port : PortId) (slot : ReqSlot)
  | attachCoach (port : PortId) (slot : ReqSlot)
  | setCoachMode (port : PortId) (slot : ReqSlot)
  | detachCoach (port : PortId) (slot : ReqSlot)
  | setMusic (port : PortId) (slot : ReqSlot)
  | stopMusic (port : PortId) (slot : ReqSlot)
  | releaseMusic (port : PortId) (slot : ReqSlot)
  | loadOpen (port : PortId) (slot : ReqSlot)
  | loadData (port : PortId) (slot : ReqSlot)
  | loadCommit (port : PortId) (slot : ReqSlot)
  | loadAbandon (port : PortId) (slot : ReqSlot)
  | retirePrompt (port : PortId) (slot : ReqSlot)
  | queryPosition (port : PortId) (slot : ReqSlot)
  | queryPlayer (port : PortId) (slot : ReqSlot)
  | queryPrompt (port : PortId) (slot : ReqSlot)
  | listPrompts (port : PortId) (slot : ReqSlot)
  | storeStatus (port : PortId) (slot : ReqSlot)
  | identify (port : PortId) (slot : ReqSlot)
  | readStore (port : PortId) (slot : ReqSlot)
  | readNext (port : PortId) (slot : ReqSlot)
  | setCharter (port : PortId) (slot : ReqSlot)
  | subscribe (port : PortId) (slot : ReqSlot)
  /-- R188. The block whose oldest raised event the port controller takes. -/
  | eventOffer (src : Block)
  /-- R31. A sync pulse at its expected instant, with the receive samples of the sample period it opens. -/
  | syncPulse (rx : RxPeriod)
  /-- R32, R34. A sync pulse `bits` bit clocks before (`late` off) or after (`late` on) the expected instant it displaced,
  with the receive samples of the sample period that instant opens. -/
  | misplacedSync (late : Bool) (bits : Nat) (rx : RxPeriod)
  /-- R32. An expected instant without a pulse; the receive samples of its sample period, or none when the bit clock has
  stopped. -/
  | syncMiss (rx : Option RxPeriod)
  /-- R32. The third consecutive miss. -/
  | syncLost
  /-- R34. The 16th good sync, with the receive samples of the sample period it opens. -/
  | syncRestored (rx : RxPeriod)
  | frameBoundary
  | slotRelease (p : Pos)
  /-- R39. The 24 bits of an upstream link frame, the first bit sent being the most significant. -/
  | upstreamFrame (p : Pos) (bits : BitVec 24)
  | downstreamFrame (p : Pos)
  /-- R41. Whether the sense reads plugged. -/
  | presenceSample (p : Pos) (plugged : Bool)
  | presenceSenseChange (p : Pos)
  | negotiationStart (p : Pos)
  | attemptTimeout (p : Pos)
  | errorWindowRenew (p : Pos)
  | linkCallStarted (p : Pos)
  | linkCallEnded (p : Pos)
  | absenceGraceNotice (p : Pos)
  | absenceTimeout (p : Pos)
  | absenceExpiry (p : Pos)
  | returnNotice (p : Pos)
  | muteButtonEdge (p : Pos)
  | whisperGrantedNotice (p : Pos)
  | whisperEndNotice (p : Pos)
  | announceGrantedNotice (p : Pos)
  | announceEndNotice (p : Pos)
  | subscriptionRefused (p : Pos)
  | announceDueNotice (p : Pos)
  | attachClaim (p : Pos)
  | detachNotice (p : Pos)
  | attachAccept (p : Pos)
  | attachRefusal (p : Pos)
  | coachCallStarted (p : Pos)
  | coachCallEnded (p : Pos)
  | coachFrame
  | echoCallStarted (p : Pos)
  | echoCallEnded (p : Pos)
  | echoPresenceLost (p : Pos)
  | echoFrame
  | suppCallStarted (p : Pos)
  | suppCallEnded (p : Pos)
  | suppPresenceLost (p : Pos)
  | lanesNotice (p : Pos)
  | mixStateChange (p : Pos)
  | mixFrame
  | holdStart (p : Pos)
  | holdChange (p : Pos)
  | holdStop (p : Pos)
  | holdFrame
  | holdLimit (p : Pos)
  | announceDue (p : Pos)
  | whisperRequest (p : Pos)
  | announceRequest (p : Pos)
  | whisperCancel (p : Pos)
  | announceEnd (p : Pos)
  | subscription (p : Pos)
  | unsubscription (p : Pos)
  | playerClearRelease (p : Pos)
  | whisperLimitNotice (p : Pos)
  | retireNotice
  | storeFaultNotice
  | fetchDelivery
  | playerFrame
  | whisperCut (k : PlayerNo)
  | connectWaitLimit (p : Pos)
  | statusReady
  | startTimeout
  | stuckTimeout
  | scanRead
  | arbiterStart
  /-- R163. What the flash holds of the sector whose erase is suspended (bytes from its first address; addresses past the
  list keep their contents). -/
  | eraseSuspend (left : List Byte)
  | storeReadDone
  /-- R164. What the flash holds of the job's bytes after the program, where it is not what the program gives (bytes from
  the job's first address; bytes past the list are as R152 gives). -/
  | programDone (left : List Byte)
  /-- R164. As for `programDone`, of a program that did not report ready in 5 ms. -/
  | programTimeout (left : List Byte)
  | eraseDone
  /-- R165. What the flash holds of the sector whose erase failed (bytes from its first address). -/
  | eraseTimeout (left : List Byte)
  | loadIdleTimeout
  | takeUp
  | letGo
  | entryJoined
  | entryLeft
  | retireAck
  | flashReadyAfterTimeout
  deriving DecidableEq, Repr

end Sys2Proof
end

