-- ==== Sys2Proof/Decode.lean ====
section
/-!
DEFINITION. The words of the command table. No row of spec/opcode_table.json gives bits: a command reaches the part as a
transaction, a pin or an event of one of its blocks, and no word spells one. The bytes of a request on a port are read in
Machine/Operands.lean (R181, R182).
-/

namespace Sys2Proof

/-- The command that a word spells by the table's bits: none, since no row gives bits. -/
def decodeTableWord (_nbits _w : Nat) : Option Instr := none

end Sys2Proof
end

