-- ==== Sys2Proof/Machine/Arith.lean ====
section
/-!
DEFINITION. The arithmetic conventions of the Introduction (00_scope.md, "Arithmetic conventions") and the byte order of
messages and headers (R156, R181). Samples and gain words are integers: products and sums are exact, and rounding is
applied only where a rule names it.
-/

namespace Sys2Proof.Machine

/-- "sat16 of a value is the value clamped into" −32768 to 32767. -/
def sat16 (x : Int) : Int := max (-32768) (min 32767 x)

/-- "round": the nearest integer to n / d, exact halves away from zero (d above 0). -/
def roundDiv (n d : Int) : Int :=
  if 0 ≤ n then (2 * n + d) / (2 * d) else -((2 * (-n) + d) / (2 * d))

/-- "truncate": n / d rounded toward zero. -/
def truncDiv (n d : Int) : Int := n.tdiv d

/-- A linear ramp over the 64 samples of a frame, from `a` toward `b`, at sample `i` (R88, R89, R93). -/
def ramp (a b : Int) (i : Nat) : Int := a + truncDiv ((b - a) * (i + 1)) 64

/-- The exact sum of the squares of samples. -/
def sumSquares : List Int → Nat
  | [] => 0
  | x :: xs => x.natAbs * x.natAbs + sumSquares xs

/-- "The energy of a frame of samples is its mean square". -/
def energy (xs : List Int) : Nat := sumSquares xs / 64

/-- The largest magnitude among samples. -/
def peak : List Int → Nat
  | [] => 0
  | x :: xs => max x.natAbs (peak xs)

/-- The exact sum of the products of two lists of samples, place by place. -/
def dot : List Int → List Int → Int
  | x :: xs, y :: ys => x * y + dot xs ys
  | _, _ => 0

/-- One step of the square root: the root found so far, with bit `b` added if it fits. -/
def isqrtBit (n r b : Nat) : Nat := if (r + 2 ^ b) * (r + 2 ^ b) ≤ n then r + 2 ^ b else r

/-- The square root of `n` from bit `b - 1` downward, starting from `r`. -/
def isqrtFrom (n : Nat) : Nat → Nat → Nat
  | 0, r => r
  | b + 1, r => isqrtFrom n b (isqrtBit n r b)

/-- "isqrt of a non-negative integer is the floor of its square root" (for integers below 2^64; R90 takes it of at most
3 × 2^30). -/
def isqrt (n : Nat) : Nat := isqrtFrom n 32 0

/-- A list brought to a length: cut off, or filled up with `x`. -/
def fitTo {α : Type} (n : Nat) (x : α) (xs : List α) : List α := (xs ++ List.replicate n x).take n

/-- A byte with a value. -/
def byte (n : Nat) : Byte := BitVec.ofNat 8 n

/-- A number in `count` bytes, most significant byte first (R156, R181). -/
def bigEndian : Nat → Nat → List Byte
  | 0, _ => []
  | count + 1, n => byte (n / 256 ^ count) :: bigEndian count n

/-- The number that bytes hold, most significant byte first. -/
def fromBigEndian (bs : List Byte) : Nat := bs.foldl (fun n b => n * 256 + b.toNat) 0

/-- The sample that a 16-bit two's-complement word holds (R25). -/
def sampleOfWord (w : BitVec 16) : Int := w.toInt

/-- The 16-bit two's-complement word of a sample (R25). -/
def wordOfSample (x : Int) : BitVec 16 := BitVec.ofInt 16 x

end Sys2Proof.Machine
end

