-- ==== Sys2Proof/Machine/State.lean ====
section
/-!
DEFINITION. The state of the Entuvo 4216: every record the manual gives a block, as plain data, and the state right
after reset. INVENTORY.md lists each field with the rule that names it; a docstring that says MODEL marks a field the
model needs and the manual does not name.
-/

namespace Sys2Proof.Machine

/-! ### Names the rules give -/

/-- R1. -/
inductive CallState where
  | idle | preconnect | talk | held
  deriving DecidableEq, Repr

/-- R1. -/
inductive HoldCause where
  | command | agentAbsent
  deriving DecidableEq, Repr

/-- R1: the ear that carries whisper audio. -/
inductive Ear where
  | left | right
  deriving DecidableEq, Repr

/-- The kinds of one-shot (R134, R144): the two whispers of R103 and the announcement. -/
inductive OneShot where
  | connect | recorded | announce
  deriving DecidableEq, Repr

/-- R103, R120: where a whisper or an announcement stands. -/
inductive ShotStatus where
  | queued
  | assigned (k : PlayerNo)
  deriving DecidableEq, Repr

/-- R10: how a connect whisper ended. -/
inductive WhisperOutcome where
  | ended | cut | skipped | cancelled
  deriving DecidableEq, Repr

/-- R6: the cause a CALL_STATE event carries. -/
inductive CallCause where
  | request
  | whisperEnd (outcome : WhisperOutcome)
  | absence
  | linkReturn
  deriving DecidableEq, Repr

/-- R20: the action an AGENT_ABSENT event carries. -/
inductive AbsentAction where
  | held | deferred | none
  deriving DecidableEq, Repr

/-- R18: the source of a change of mute. -/
inductive MuteSource where
  | button | request
  deriving DecidableEq, Repr

/-- The statuses of requests, in the order of the Introduction (00_scope.md, "Status"). -/
inductive Status where
  | ok | queueFull | charter | latched | conflict | state | busy | range | slotInUse | inUse | noPrompt | exists_
  | noSpace | notReady | storeFault | unknown
  deriving DecidableEq, Repr

/-- R40. -/
inductive LinkState where
  | disabled | detect | negotiate | active | recovery | failed
  deriving DecidableEq, Repr

/-- R40: the phase of a negotiation attempt. -/
inductive Phase where
  | probe | select
  deriving DecidableEq, Repr

/-- R40, R55: the absence timer; RUNNING holds the microseconds remaining (R55 gives milliseconds of the local clock). -/
inductive AbsenceTimer where
  | stopped
  | running (micros : Nat)
  | expired
  deriving DecidableEq, Repr

/-- R50: the cause a LINK_RECOVERING event carries. -/
inductive RecoverCause where
  | request | errors | adapter
  deriving DecidableEq, Repr

/-- R50: the cause a LINK_DOWN event carries. -/
inductive DownCause where
  | presenceLost | disabled
  deriving DecidableEq, Repr

/-- R31. -/
inductive SyncState where
  | acquiring | inSync | lost
  deriving DecidableEq, Repr

/-- R34, R35: the cause a SYNC_RESTORED event carries. -/
inductive RestoreCause where
  | recovery | start
  deriving DecidableEq, Repr

/-- R26: the role of a receive timeslot. -/
inductive RxRole where
  | unbound
  | customer (p : Pos)
  | coach (c : Source)
  deriving DecidableEq, Repr

/-- R26: the role of a transmit timeslot. -/
inductive TxRole where
  | unbound
  | send (p : Pos)
  | monitor (c : Source)
  deriving DecidableEq, Repr

/-- R58. -/
inductive CancMode where
  | off | frozen | adapt
  deriving DecidableEq, Repr

/-- R111. -/
inductive Attachment where
  | unattached | pending | attached
  deriving DecidableEq, Repr

/-- R111. -/
inductive CoachMode where
  | monitor | coach | barge
  deriving DecidableEq, Repr

/-- R114: the cause a COACH_DETACHED event carries. -/
inductive DetachCause where
  | request | cleared
  deriving DecidableEq, Repr

/-- R134. -/
inductive Role where
  | pool | music
  deriving DecidableEq, Repr

/-- R134. -/
inductive PlayerState where
  | idle | priming | playing
  deriving DecidableEq, Repr

/-- R134. -/
inductive FetchState where
  | none | live | stale
  deriving DecidableEq, Repr

/-- R106, R109, R110, R127, R129: why a one-shot ended at the player unit. -/
inductive EndCause where
  | reachedEnd | cancelled | cleared | resumed
  deriving DecidableEq, Repr

/-- R105, R124, R128: why a one-shot was skipped. -/
inductive SkipCause where
  | waitLimit | retired | noPrompt | busy
  deriving DecidableEq, Repr

/-- R153. -/
inductive SectorState where
  | free
  | allocated (id : Nat)
  | erasing
  | bad
  deriving DecidableEq, Repr

/-- R154. -/
inductive PromptState where
  | writing | valid | retiring
  deriving DecidableEq, Repr

/-- R154: the outcome of the RETIRED marker program. -/
inductive Mark where
  | pending | done | failed
  deriving DecidableEq, Repr

/-- R157. -/
inductive StoreState where
  | starting | scanning | ready | fault
  deriving DecidableEq, Repr

/-- R161. -/
inductive FaultCause where
  | start | stuck
  deriving DecidableEq, Repr

/-- R164, R165: the operation a SECTOR_BAD event carries. -/
inductive FlashOp where
  | program | erase
  deriving DecidableEq, Repr

/-- R164, R165: why a program or an erase failed. -/
inductive FlashCause where
  | timeout | verify
  deriving DecidableEq, Repr

/-- R177: why a load session ended without a commit. -/
inductive LoadCause where
  | abandoned | idle | timeout | verify | storeFault
  deriving DecidableEq, Repr

/-- R171. -/
inductive SessionState where
  | opened | programming | committing
  deriving DecidableEq, Repr

/-- R175. -/
inductive CommitStep where
  | page | fields | marker
  deriving DecidableEq, Repr

/-- R181: the event classes, in the order of their numbers 1 to 7. -/
inductive EventClass where
  | call | station | signal | playback | coach | store | fault
  deriving DecidableEq, Repr

/-! ### Events (R182, and the event tables of the chapters) -/

/-- An event with the fields it carries. -/
inductive Event where
  | callState (p : Pos) (serial : Byte) (old new : CallState) (holdCause : Option HoldCause) (cause : CallCause)
      (lastHold : Option Nat)
  | agentAbsent (p : Pos) (serial : Byte) (action : AbsentAction)
  | agentReturned (p : Pos) (serial : Byte) (resumed : Bool)
  | holdLimit (p : Pos) (serial holdNumber : Byte) (limit elapsed : Nat)
  | presenceChanged (p : Pos) (present : Bool)
  | linkUp (p : Pos) (lanes : Nat)
  | linkDown (p : Pos) (cause : DownCause)
  | linkRecovering (p : Pos) (cause : RecoverCause) (errors : Nat)
  | linkFailed (p : Pos) (offer : Option Nat)
  | renegotiated (p : Pos) (lanes : Nat)
  | autonomousChange (p : Pos) (before lanes : Nat)
  | muteChanged (p : Pos) (mute : Bool) (source : MuteSource)
  | tapShort (p : Pos) (c : Canc) (requested held : Nat)
  | tapToppedUp (p : Pos) (c : Canc) (requested held : Nat)
  | cancellerReset (p : Pos) (c : Canc) (held : Nat)
  | whisperStarted (p : Pos) (serial : Byte) (kind : OneShot) (prompt : Nat) (k : PlayerNo) (limit : Nat)
  | whisperEnded (p : Pos) (serial : Byte) (kind : OneShot) (prompt : Nat) (cause : EndCause) (played : Nat)
  | whisperCut (p : Pos) (serial : Byte) (kind : OneShot) (prompt : Nat) (played : Nat)
  | whisperSkipped (p : Pos) (serial : Byte) (kind : OneShot) (prompt : Nat) (cause : SkipCause) (waited : Nat)
  | announceStarted (p : Pos) (serial : Byte) (prompt : Nat) (k : PlayerNo)
  | announceEnded (p : Pos) (serial : Byte) (prompt : Nat) (cause : EndCause) (played : Nat)
  | announceSkipped (p : Pos) (serial : Byte) (prompt : Option Nat) (cause : SkipCause) (elapsed : Option Nat)
  | underrun (k : PlayerNo) (role : Role) (prompt : Nat) (served : Option (Pos × Byte × OneShot)) (missing : Nat)
  | coachAttached (c : Source) (p : Pos) (serial : Byte) (mode : CoachMode)
  | coachDetached (c : Source) (p : Pos) (serial : Byte) (cause : DetachCause)
  | coachModeChanged (c : Source) (p : Pos) (serial : Byte) (old new : CoachMode)
  | storeReady (valid torn retired invalid erasing : Nat)
  | sectorBad (sector : Nat) (op : FlashOp) (cause : FlashCause) (id : Option Nat)
  | retireDone (id freed bad : Nat) (mark : Mark)
  | loadDone (id first final length released : Nat)
  | loadFailed (id : Nat) (cause : LoadCause) (cursor : Nat) (sector : Option Nat)
  | restart (cause : ResetCause)
  | syncLost
  | syncRestored (cause : RestoreCause) (millis : Nat)
  | flashTimeout (cause : FaultCause)
  | eventsLost (lost faults : Nat)
  deriving DecidableEq, Repr

/-- A raised event on its way to the port controller: the block that raised it and the frame stamp of that moment
(R30, R187). -/
structure Raised where
  src : Block
  stamp : BitVec 32
  event : Event
  deriving DecidableEq, Repr

/-! ### Notices between blocks -/

/-- R92: the position record's fields that the mixer keeps copies of. -/
structure MixCopies where
  callState : CallState
  mute : Bool
  earLevel : Nat
  sendLevel : Nat
  duckDepth : Nat
  whisperEar : Ear
  deriving DecidableEq, Repr

/-- R122, R125: what a hold-start or hold-change notice carries. -/
structure HoldNotice where
  serial : Byte
  holdNumber : Byte
  announceOn : Bool
  interval : Nat
  atStart : Bool
  limit : Nat
  deriving DecidableEq, Repr

/-- What one block hands to another. The blocks it goes between, and the position it concerns, are those of the
`Notice` that holds it. -/
inductive Tidings where
  /-- R9, to the echo unit, the suppressor, the coach unit and the link controller (which reads the grace, R55). -/
  | callStarted (serial : Byte) (grace : Nat)
  /-- R16, to the same four. -/
  | callEnded
  /-- R55. -/
  | absenceGrace (millis : Nat)
  /-- R84: the copies as the record holds them. -/
  | mixState (copies : MixCopies)
  /-- R16, R27, with the request slot of the CLEAR, whose response waits for the slot map (assumption 48). -/
  | slotRelease (port : PortId) (slot : ReqSlot)
  /-- R122. -/
  | holdStart (n : HoldNotice)
  /-- R125. -/
  | holdChange (n : HoldNotice)
  /-- R126. -/
  | holdStop (holdNumber : Byte) (capture : Bool)
  /-- R104. -/
  | whisperRequest (serial number : Byte) (kind : OneShot) (prompt : Nat) (waitLimit : Nat)
  /-- R124. -/
  | announceRequest (serial number : Byte) (prompt : Nat)
  /-- R109. -/
  | whisperCancel (serial number : Byte) (kind : OneShot)
  /-- R127. -/
  | announceEnd (serial number : Byte) (cause : EndCause)
  /-- R143. -/
  | subscribe (serial : Byte) (k : PlayerNo)
  /-- R143. -/
  | unsubscribe (serial : Byte) (k : PlayerNo)
  /-- R16, R147. -/
  | clearRelease
  /-- R104. -/
  | whisperLimit (seconds : Nat)
  /-- R54. -/
  | muteEdge
  /-- R56. -/
  | absenceExpiry (serial : Byte)
  /-- R57. -/
  | linkReturn (serial : Byte)
  /-- R42, to the echo unit and to the suppressor. -/
  | presenceLost
  /-- R46. -/
  | lanes (n : Nat)
  /-- R103. -/
  | whisperGranted (serial number : Byte) (k : PlayerNo)
  /-- R103: ENDED, CUT or SKIPPED. -/
  | whisperOver (serial number : Byte) (outcome : WhisperOutcome)
  /-- R130. -/
  | announceGranted (serial number : Byte) (k : PlayerNo)
  /-- R130: ENDED or SKIPPED. -/
  | announceOver (serial number : Byte)
  /-- R143. -/
  | subscriptionRefused (serial : Byte) (k : PlayerNo)
  /-- R124. -/
  | announceDue (serial holdNumber : Byte) (elapsed : Nat)
  /-- R113. -/
  | attachClaim (c : Source)
  /-- R114. -/
  | detach (c : Source) (serial : Byte)
  /-- R113. -/
  | attachAccept (c : Source)
  /-- R113. -/
  | attachRefusal (c : Source) (status : Status)
  /-- R166: a grant's take-up. -/
  | takeUp (k : PlayerNo) (prompt : Nat)
  /-- R166: the player's role was MUSIC when `music` is set. -/
  | letGo (k : PlayerNo) (music : Bool) (prompt : Nat)
  /-- R166. -/
  | entryJoined (prompt : Nat)
  /-- R166. -/
  | entryLeft (prompt : Nat)
  /-- R167. -/
  | retireAck (prompt : Nat)
  /-- R149. -/
  | retire (prompt : Nat)
  /-- R150. -/
  | storeFault
  deriving DecidableEq, Repr

/-- A notice on its way from one block to another (R3): notices between the same two blocks are taken in the order in
which they were delivered, and no others are ordered. -/
structure Notice where
  src : Block
  dst : Block
  tidings : Tidings
  deriving DecidableEq, Repr

/-! ### The records of the blocks -/

/-- R103. -/
structure Whisper where
  kind : OneShot
  prompt : Nat
  number : Byte
  status : ShotStatus
  deriving DecidableEq, Repr

/-- R120. -/
structure Announcement where
  prompt : Nat
  number : Byte
  status : ShotStatus
  deriving DecidableEq, Repr

/-- R1, R103, R120: a position record. -/
structure PosRec where
  callState : CallState
  holdCause : Option HoldCause
  callSerial : Byte
  rxSlot : Option Timeslot
  txSlot : Option Timeslot
  preconnectPlayer : Option PlayerNo
  holdPlayer : Option PlayerNo
  announcePrompt : Option Nat
  announceInterval : Nat
  announceAtStart : Bool
  holdLimit : Nat
  mute : Bool
  agentAbsent : Bool
  whisper : Option Whisper
  announcement : Option Announcement
  coach : Option Source
  earLevel : Nat
  sendLevel : Nat
  duckDepth : Nat
  whisperEar : Ear
  absenceGrace : Nat
  absenceHold : Bool
  autoResume : Bool
  whisperLimit : Nat
  connectWaitLimit : Nat
  lastHoldFrames : Nat
  whisperCounter : Byte
  holdNumber : Byte
  announceCounter : Byte
  deriving DecidableEq, Repr

/-- R1, R2, R103, R120: a position record after reset. -/
def PosRec.reset : PosRec where
  callState := .idle
  holdCause := none
  callSerial := 0
  rxSlot := none
  txSlot := none
  preconnectPlayer := none
  holdPlayer := none
  announcePrompt := none
  announceInterval := 60
  announceAtStart := false
  holdLimit := 0
  mute := false
  agentAbsent := false
  whisper := none
  announcement := none
  coach := none
  earLevel := 16384
  sendLevel := 16384
  duckDepth := 4096
  whisperEar := .left
  absenceGrace := 500
  absenceHold := true
  autoResume := true
  whisperLimit := 10
  connectWaitLimit := 2
  lastHoldFrames := 0
  whisperCounter := 0
  holdNumber := 0
  announceCounter := 0

/-- R40: a link record. -/
structure LinkRec where
  linkState : LinkState
  present : Bool
  senseRun : Nat
  lanes : Nat
  maxLanes : Nat
  phase : Option Phase
  selected : Option Nat
  lastOffer : Option Nat
  attemptFrames : Nat
  retryCount : Nat
  windowStart : Nat
  errorCount : Nat
  retrainRequested : Bool
  autonomous : Bool
  lanesBefore : Nat
  lastGoodMic : Int
  callBound : Bool
  callSerial : Byte
  grace : Nat
  absenceTimer : AbsenceTimer
  /-- R37: the link frames counted since reset, in which `windowStart` is a place. -/
  linkFrame : Nat
  /-- R47: the microphone input of the frame period in progress; none where the link frame was outside ACTIVE. -/
  mic : Table 64 (Option Int)
  /-- R38: the downstream link frame last sent; none while no frame is sent. -/
  down : Option (BitVec 40)
  deriving DecidableEq, Repr

/-- R40: a link record after reset. -/
def LinkRec.reset : LinkRec where
  linkState := .detect
  present := false
  senseRun := 0
  lanes := 1
  maxLanes := 2
  phase := none
  selected := none
  lastOffer := none
  attemptFrames := 0
  retryCount := 0
  windowStart := 0
  errorCount := 0
  retrainRequested := false
  autonomous := false
  lanesBefore := 1
  lastGoodMic := 0
  callBound := false
  callSerial := 0
  grace := 500
  absenceTimer := .stopped
  linkFrame := 0
  mic := Vector.replicate 64 none
  down := none

/-- R26: the slot map. -/
structure SlotMap where
  rx : Table 32 RxRole
  tx : Table 32 TxRole
  deriving DecidableEq, Repr

/-- R26: the slot map after reset. -/
def SlotMap.reset : SlotMap where
  rx := Vector.replicate 32 .unbound
  tx := Vector.replicate 32 .unbound

/-- R30, R31: the highway interface. -/
structure Highway where
  sync : SyncState
  goodCount : Nat
  missCount : Nat
  /-- R32: bit clocks from the latest misplaced pulse since the last good sync to the next expected instant; a period without
  bit clocks counts as 512 (assumption 58). -/
  sinceMisplaced : Option Nat
  frameCounter : BitVec 32
  /-- R29: sample periods opened in the frame period in progress, 0–64. -/
  sampleIx : Nat
  /-- R34: the frame period in progress is a collection period. -/
  collecting : Bool
  /-- R34: microseconds of the local clock since the loss was declared. -/
  lossMicros : Nat
  /-- R28: the roles in force for the frame period in progress. -/
  roles : SlotMap
  /-- R29: the receive samples collected in the frame period in progress, oldest sample period first. -/
  collected : List (List Int)
  /-- R25: what each transmit timeslot drove in the last sample period; none is undriven. -/
  txPins : Table 32 (Option Int)
  deriving DecidableEq, Repr

/-- R30, R31, R35: the highway interface after reset; the miss count starts at 0 (assumption 42). -/
def Highway.reset : Highway where
  sync := .acquiring
  goodCount := 0
  missCount := 0
  sinceMisplaced := none
  frameCounter := 0
  sampleIx := 0
  collecting := false
  lossMicros := 0
  roles := .reset
  collected := []
  txPins := Vector.replicate 32 none

/-- R84: what the link controller hands for a position with a frame. -/
structure MicIn where
  samples : List Int
  whole : Bool
  active : Bool
  deriving DecidableEq, Repr

/-- R84: what the echo unit hands the suppressor and mixer for a bound position. -/
structure EchoOut where
  customer : List Int
  residual : List Int
  farEnd : Bool
  doubleTalk : Bool
  hangover : Nat
  deriving DecidableEq, Repr

/-- R116: the coach frame of an attached source. -/
structure CoachOut where
  voice : List Int
  position : Pos
  mode : CoachMode
  level : Nat
  active : Bool
  deriving DecidableEq, Repr

/-- R94: the audio frame of a player that serves a position. -/
structure PlayerOut where
  samples : List Int
  level : Nat
  playing : Bool
  subscribers : List Pos
  served : Option (Pos × OneShot)
  deriving DecidableEq, Repr

/-- R29: the input of the frame last closed, which blocks have still to take its frame boundary, what they have
handed on for it, and the output being sent. -/
structure FrameBus where
  echoDue : Bool
  coachDue : Bool
  playerDue : Bool
  holdDue : Bool
  mixDue : Bool
  customers : Table 16 (List Int)
  voices : Table 4 (List Int)
  mics : Table 16 MicIn
  echoOut : Table 16 (Option EchoOut)
  coachOut : Table 4 (Option CoachOut)
  playerOut : Table 6 (Option PlayerOut)
  sendOut : Table 16 (Option (List Int))
  earOut : Table 16 (Option (List Int × List Int))
  monitorOut : Table 4 (Option (List Int))
  deriving DecidableEq, Repr

/-- R29, R35: no frame has been closed after reset. -/
def FrameBus.reset : FrameBus where
  echoDue := false
  coachDue := false
  playerDue := false
  holdDue := false
  mixDue := false
  customers := Vector.replicate 16 []
  voices := Vector.replicate 4 []
  mics := Vector.replicate 16 { samples := [], whole := false, active := false }
  echoOut := Vector.replicate 16 none
  coachOut := Vector.replicate 4 none
  playerOut := Vector.replicate 6 none
  sendOut := Vector.replicate 16 none
  earOut := Vector.replicate 16 none
  monitorOut := Vector.replicate 4 none

/-- R58: a canceller record; the taps themselves stand in the tap pool, block by block (R62). -/
structure CancRec where
  mode : CancMode
  requested : Nat
  blocks : List (Fin 128)
  stepCode : Nat
  dtCode : Nat
  hangover : Nat
  hangoverCount : Nat
  pAct : Nat
  divergence : Nat
  erle : Nat
  /-- The reference history, oldest sample first. -/
  history : List Int
  deriving DecidableEq, Repr

/-- R58: a canceller record after reset. -/
def CancRec.reset : Canc → CancRec
  | .line =>
    { mode := .adapt, requested := 6, blocks := [], stepCode := 2, dtCode := 1, hangover := 8, hangoverCount := 0,
      pAct := 4000, divergence := 0, erle := 0, history := List.replicate 1088 0 }
  | .acoustic =>
    { mode := .adapt, requested := 2, blocks := [], stepCode := 3, dtCode := 3, hangover := 8, hangoverCount := 0,
      pAct := 4000, divergence := 0, erle := 0, history := List.replicate 320 0 }

/-- A canceller by position and kind. -/
structure CancId where
  pos : Pos
  canc : Canc
  deriving DecidableEq, Repr

/-- R58, R73, R74: the echo unit with the tap pool. -/
structure EchoUnit where
  line : Table 16 CancRec
  acoustic : Table 16 CancRec
  bound : Table 16 Bool
  /-- R70: the acoustic canceller waits for a reset of its taps. -/
  resetMark : Table 16 Bool
  taps : Table 128 (List Int)
  free : List (Fin 128)
  waiting : List CancId
  deriving DecidableEq, Repr

/-- R58: the echo unit after reset. -/
def EchoUnit.reset : EchoUnit where
  line := Vector.replicate 16 (.reset .line)
  acoustic := Vector.replicate 16 (.reset .acoustic)
  bound := Vector.replicate 16 false
  resetMark := Vector.replicate 16 false
  taps := Vector.replicate 128 (List.replicate 64 0)
  free := List.finRange 128
  waiting := []

/-- R83: a suppressor record. -/
structure SuppRec where
  noiseFloor : Nat
  gain : Nat
  alphaQ : Nat
  gMin : Nat
  nlp : Bool
  nlpEngaged : Bool
  cnRegister : BitVec 16
  floorReset : Bool
  bound : Bool
  deriving DecidableEq, Repr

/-- R83: a suppressor record after reset. -/
def SuppRec.reset (p : Pos) : SuppRec where
  noiseFloor := 0
  gain := 16384
  alphaQ := 8
  gMin := 2063
  nlp := true
  nlpEngaged := false
  cnRegister := BitVec.ofNat 16 (4096 + p.val)
  floorReset := false
  bound := false

/-- R99: where the coach voice stands in the ears. -/
inductive CoachPlace where
  | whisperEar | bothEars
  deriving DecidableEq, Repr

/-- R92, R93: the mix state of a position: the copies, the lanes, the term gains and the duck weight. -/
structure MixRec where
  copies : MixCopies
  lanes : Nat
  sendAgent : Nat
  sendCoach : Nat
  sendAnnounce : Nat
  sendMusic : Table 6 Nat
  earCustomer : Nat
  earConnect : Nat
  earRecorded : Nat
  earCoach : Nat
  duck : Nat
  /-- MODEL (assumption 9): the place the coach voice last had, kept while its term ramps out. -/
  coachPlace : CoachPlace
  deriving DecidableEq, Repr

/-- R92, R93: the mix state of a position after reset. -/
def MixRec.reset : MixRec where
  copies := { callState := .idle, mute := false, earLevel := 16384, sendLevel := 16384, duckDepth := 4096,
              whisperEar := .left }
  lanes := 1
  sendAgent := 0
  sendCoach := 0
  sendAnnounce := 0
  sendMusic := Vector.replicate 6 0
  earCustomer := 0
  earConnect := 0
  earRecorded := 0
  earCoach := 0
  duck := 16384
  coachPlace := .whisperEar

/-- R113: the ATTACH_COACH a PENDING source will answer: its port, its request slot and the mode it carries. -/
structure Attaching where
  port : PortId
  slot : ReqSlot
  mode : CoachMode
  deriving DecidableEq, Repr

/-- R111: a coach source record. -/
structure CoachRec where
  rxSlot : Option Timeslot
  txSlot : Option Timeslot
  attachment : Attachment
  position : Option Pos
  callSerial : Byte
  mode : CoachMode
  level : Nat
  voiceActive : Bool
  voiceHangover : Nat
  attaching : Option Attaching
  deriving DecidableEq, Repr

/-- R111: a coach source record after reset. -/
def CoachRec.reset : CoachRec where
  rxSlot := none
  txSlot := none
  attachment := .unattached
  position := none
  callSerial := 0
  mode := .monitor
  level := 16384
  voiceActive := false
  voiceHangover := 0
  attaching := none

/-- R111: the coach unit. -/
structure CoachUnit where
  sources : Table 4 CoachRec
  /-- R111: the call_serial of each position's last call-started notice. -/
  serials : Table 16 Byte
  deriving DecidableEq, Repr

/-- R119: a sequencer record. -/
structure SeqRec where
  counting : Bool
  elapsed : Nat
  nextAnnounce : Option Nat
  interval : Option Nat
  announceOn : Bool
  limit : Option Nat
  limitReported : Bool
  callSerial : Byte
  holdNumber : Byte
  deriving DecidableEq, Repr

/-- R119: a sequencer record after reset. -/
def SeqRec.reset : SeqRec where
  counting := false
  elapsed := 0
  nextAnnounce := none
  interval := none
  announceOn := false
  limit := none
  limitReported := false
  callSerial := 0
  holdNumber := 0

/-- R134: the one-shot a POOL player serves. -/
structure Assignment where
  position : Pos
  serial : Byte
  kind : OneShot
  number : Byte
  deriving DecidableEq, Repr

/-- R134: a player record. -/
structure Player where
  role : Role
  state : PlayerState
  prompt : Option Nat
  cursor : Nat
  fetchOffset : Nat
  level : Nat
  buffer : List Byte
  fetch : FetchState
  subscribers : List Pos
  assignment : Option Assignment
  playedFrames : Nat
  underrunEpisode : Bool
  underrunCount : Nat
  /-- R137: the length, first sector and loop point read when the player took up its prompt. -/
  length : Nat
  firstSector : Nat
  loopPoint : Option Nat
  /-- R106: the whisper limit in frames, read when the player turned PLAYING. -/
  limitFrames : Nat
  deriving DecidableEq, Repr

/-- R134: a player record after reset. -/
def Player.reset : Player where
  role := .pool
  state := .idle
  prompt := none
  cursor := 0
  fetchOffset := 0
  level := 0
  buffer := []
  fetch := .none
  subscribers := []
  assignment := none
  playedFrames := 0
  underrunEpisode := false
  underrunCount := 0
  length := 0
  firstSector := 0
  loopPoint := none
  limitFrames := 0

/-- R144: an entry of the player wait queue. -/
structure QueueEntry where
  kind : OneShot
  position : Pos
  serial : Byte
  number : Byte
  prompt : Nat
  waitLimit : Nat
  /-- R104: waited_frames; no rule bounds it, and the model neither saturates nor wraps it (assumption 59). -/
  waited : Nat
  deriving DecidableEq, Repr

/-- R134, R104: the player unit. -/
structure PlayerUnit where
  players : Table 6 Player
  queue : List QueueEntry
  /-- R104: the copy of each position's whisper_limit, in seconds. -/
  limits : Table 16 Nat
  /-- R150: the store-fault notice has been taken. -/
  fault : Bool
  deriving DecidableEq, Repr

/-- R134: the player unit after reset. -/
def PlayerUnit.reset : PlayerUnit where
  players := Vector.replicate 6 .reset
  queue := []
  limits := Vector.replicate 16 10
  fault := false

/-- R154: a catalogue entry. -/
structure Entry where
  id : Nat
  state : PromptState
  first : Nat
  reserved : Nat
  final : Option Nat
  length : Option Nat
  level : Option Nat
  loopPoint : Option Nat
  label : Option (List Byte)
  playerRefs : Nat
  musicRefs : Nat
  queueRefs : Nat
  retireAcked : Bool
  mark : Option Mark
  deriving DecidableEq, Repr

/-- R175: the fields an accepted LOAD_COMMIT carries, with final_sectors. -/
structure CommitFields where
  length : Nat
  final : Nat
  level : Nat
  loopPoint : Option Nat
  label : Option (List Byte)
  deriving DecidableEq, Repr

/-- R171: the load session. -/
structure Session where
  owner : PortId
  id : Nat
  first : Nat
  reserved : Nat
  maxLength : Nat
  cursor : Nat
  staging : List Byte
  state : SessionState
  headerPending : Bool
  commitStep : Option CommitStep
  /-- R175: the commit step that waits for its turn, for the header program or for a place in the job queue. -/
  nextStep : Option CommitStep
  commit : Option CommitFields
  /-- R171: microseconds left on the idle timer; none is STOPPED. -/
  idle : Option Nat
  deriving DecidableEq, Repr

/-- R164, R174, R175, R167: who is told of the end of a program. -/
inductive JobOwner where
  | header (id : Nat)
  | page (id : Nat)
  | commit (id : Nat) (step : CommitStep)
  | marker (id : Nat)
  deriving DecidableEq, Repr

/-- R162, R164: a store job: a program of bytes from an address on, or the erase of a sector. -/
inductive Job where
  | program (addr : Nat) (bytes : List Byte) (owner : JobOwner)
  | erase (sector : Nat)
  deriving DecidableEq, Repr

/-- R165, R169: a run of the erase list. -/
structure Run where
  /-- The sectors still to be erased, in order; the first may be queued or in progress. -/
  todo : List Nat
  erased : List Nat
  bad : Nat
  /-- R165: the id the run belonged to, if any. -/
  id : Option Nat
  /-- R169: the mark of the retirement the run comes from; none for a run the scan found. -/
  mark : Option Mark
  deriving DecidableEq, Repr

/-- R158, R159: the start-up scan. -/
structure Scan where
  next : Nat
  held : List Entry
  valid : Nat
  torn : Nat
  retired : Nat
  invalid : Nat
  deriving DecidableEq, Repr

/-- R158: the scan before it begins. -/
def Scan.reset : Scan where
  next := 0
  held := []
  valid := 0
  torn := 0
  retired := 0
  invalid := 0

/-- R153, R154, R157, R165, R171: the store controller's tables. -/
structure Store where
  state : StoreState
  cause : Option FaultCause
  sectors : Table 4096 SectorState
  catalogue : List Entry
  session : Option Session
  eraseList : List Run
  scan : Scan
  /-- R177: the marker job of a failed load that waits for a place in the job queue. -/
  owedMarker : Option Job
  /-- R157: microseconds since the end of reset, counted in STARTING. -/
  startMicros : Nat
  deriving DecidableEq, Repr

/-- R153, R154, R157: the store controller's tables after reset. -/
def Store.reset : Store where
  state := .starting
  cause := none
  sectors := Vector.replicate 4096 .free
  catalogue := []
  session := none
  eraseList := []
  scan := .reset
  owedMarker := none
  startMicros := 0

/-- R162: a read that waits at the arbiter or is in progress: a port's (R179) or the scan's (R158). -/
inductive ReadReq where
  | port (port : PortId) (slot : ReqSlot) (start count : Nat)
  | scanHeader (sector : Nat)
  | scanWhole (sector : Nat)
  deriving DecidableEq, Repr

/-- R137, R162: a player's fetch: the flash address and the count of bytes. -/
structure FetchReq where
  player : PlayerNo
  addr : Nat
  count : Nat
  deriving DecidableEq, Repr

/-- R162: an operation in progress other than an erase; a program holds its microseconds since the issue (R164). -/
inductive ArbOp where
  | fetch (r : FetchReq)
  | read (r : ReadReq)
  | program (addr : Nat) (bytes : List Byte) (owner : JobOwner) (micros : Nat)
  deriving DecidableEq, Repr

/-- R163: the erase in progress, with its unsuspended microseconds. -/
structure EraseOp where
  sector : Nat
  micros : Nat
  suspended : Bool
  deriving DecidableEq, Repr

/-- R162: the flash port arbiter. -/
structure Arbiter where
  current : Option ArbOp
  erase : Option EraseOp
  fetches : List FetchReq
  reads : List ReadReq
  jobs : List Job
  pointer : PlayerNo
  /-- R161: microseconds since an operation timed out, until the flash reports ready. -/
  recovering : Option Nat
  deriving DecidableEq, Repr

/-- R162: the arbiter after reset. -/
def Arbiter.reset : Arbiter where
  current := none
  erase := none
  fetches := []
  reads := []
  jobs := []
  pointer := 5
  recovering := none

/-- R183: a response as it waits in its slot: the tag and code of the request, the status and the payload (R181). -/
structure Response where
  tag : Byte
  code : Byte
  status : Status
  payload : List Byte
  deriving DecidableEq, Repr

/-- R183: a request slot. `carried` is set when the port controller has passed the request through its own checks on the
way to its owner (R184). -/
inductive SlotHolds where
  | empty
  | request (tag code : Byte) (payload : List Byte) (carried : Bool)
  | response (r : Response)
  deriving DecidableEq, Repr

/-- R188: an event in a port's queue. -/
structure QueuedEvent where
  seq : Byte
  stamp : BitVec 32
  event : Event
  deriving DecidableEq, Repr

/-- Section 11.4: a set of request groups. -/
structure Groups where
  call : Bool
  station : Bool
  coach : Bool
  store : Bool
  deriving DecidableEq, Repr

/-- Section 11.5: one subscription flag for each class. -/
structure Flags where
  call : Bool
  station : Bool
  signal : Bool
  playback : Bool
  coach : Bool
  store : Bool
  fault : Bool
  deriving DecidableEq, Repr

/-- Chapter 11: what the port controller holds for a port. -/
structure Port where
  slots : Table 4 SlotHolds
  /-- R184: the slots whose requests have still to be taken by their owners, in the order of intake. -/
  intake : List ReqSlot
  /-- R185: the slots that hold responses, in the order in which the responses were queued. -/
  answered : List ReqSlot
  charter : Groups
  latched : Bool
  subs : Flags
  events : List QueuedEvent
  seq : Byte
  overflow : Bool
  lost : Nat
  lostFaults : Nat
  readCursor : Nat
  /-- MODEL (assumption 47). R179, "Each port's reads are answered in the order that port sent them": the slots of the port's
  reads that are still to be answered, in the order they were taken; a refusal that waits for an earlier read carries its
  status. -/
  reads : List (ReqSlot × Option Status)
  /-- R180: the bytes the part drove on data out in the last transaction, after the kind byte. -/
  dataOut : List Byte
  deriving DecidableEq, Repr

/-- R189: a port after reset, with the RESTART event in its queue. -/
def Port.reset (cause : ResetCause) : PortId → Port
  | .a =>
    { slots := Vector.replicate 4 .empty, intake := [], answered := [],
      charter := { call := true, station := true, coach := false, store := false }, latched := false,
      subs := { call := true, station := true, signal := true, playback := true, coach := false, store := false,
                fault := true },
      events := [{ seq := 0, stamp := 0, event := .restart cause }], seq := 1, overflow := false, lost := 0,
      lostFaults := 0, readCursor := 0, reads := [], dataOut := [] }
  | .b =>
    { slots := Vector.replicate 4 .empty, intake := [], answered := [],
      charter := { call := false, station := false, coach := true, store := true }, latched := false,
      subs := { call := false, station := false, signal := false, playback := true, coach := true, store := true,
                fault := true },
      events := [{ seq := 0, stamp := 0, event := .restart cause }], seq := 1, overflow := false, lost := 0,
      lostFaults := 0, readCursor := 0, reads := [], dataOut := [] }

/-- R152: the flash contents, as address and byte pairs in rising order of address; an address not listed reads 0xFF. -/
abbrev Memory := List Host.Cell

/-- The state of the part, with the commands that wait. -/
structure State where
  records : Table 16 PosRec
  links : Table 16 LinkRec
  slotMap : SlotMap
  highway : Highway
  bus : FrameBus
  echo : EchoUnit
  supp : Table 16 SuppRec
  mix : Table 16 MixRec
  coach : CoachUnit
  seqs : Table 16 SeqRec
  playerUnit : PlayerUnit
  store : Store
  arbiter : Arbiter
  flash : Memory
  portA : Port
  portB : Port
  /-- R190: the cause of the last reset. -/
  resetCause : ResetCause
  /-- R3: the notices on their way, oldest first. -/
  notices : List Notice
  /-- R187: the raised events the port controller has still to take, oldest first. -/
  raised : List Raised
  /-- MODEL (assumption 5): how many free values have been drawn. -/
  freeCount : Nat
  /-- MODEL: the commands that wait, first in, first out. -/
  pending : List Instr
  deriving DecidableEq, Repr

/-- The state at the end of a reset of the given cause, over given flash contents (the flash keeps them, R152). -/
def State.afterReset (cause : ResetCause) (flash : Memory) : State where
  records := Vector.replicate 16 .reset
  links := Vector.replicate 16 .reset
  slotMap := .reset
  highway := .reset
  bus := .reset
  echo := .reset
  supp := table SuppRec.reset
  mix := Vector.replicate 16 .reset
  coach := { sources := Vector.replicate 4 .reset, serials := Vector.replicate 16 0 }
  seqs := Vector.replicate 16 .reset
  playerUnit := .reset
  store := .reset
  arbiter := .reset
  flash := flash
  portA := .reset cause .a
  portB := .reset cause .b
  resetCause := cause
  notices := []
  raised := []
  freeCount := 0
  pending := []

/-- The machine right after a power-on reset (R189) beside an erased flash (assumption 2): every field at the reset value
its rule gives. -/
def State.reset : State := State.afterReset .powerOn []

/-- Why a step would stop. No rule of the manual stops the part: `impossible` is raised by no meaning, and a run can
never end in it (safe). -/
inductive Fault where
  /-- Raised by nobody; it stands only so that the type has a name to print (safe). -/
  | impossible
  deriving DecidableEq, Repr

/-- Why a command has no meaning. -/
inductive Refusal where
  /-- A command that has no meaning yet, by its mnemonic; raised by an arm of exec and by no meaning (safe). -/
  | notModelled (mnemonic : String)
  deriving DecidableEq, Repr

end Sys2Proof.Machine
end

