-- ==== Sys2Proof/Machine/Memory.lean ====
section
/-!
DEFINITION. The flash as the part uses it (R152): reads, page programs that can only clear bits, and sector erases. The
contents are held in one canonical form (`Memory.wf`): addresses strictly rising, no entry equal to 0xFF, which is what an
address that is not listed reads as (assumption 2).
-/

namespace Sys2Proof.Machine

/-- What an address that is not listed reads as: an erased byte (R152; assumption 2). -/
def erasedByte : Byte := 0xFF

/-- The byte at an address. -/
def Memory.read : Memory → Nat → Byte
  | [], _ => erasedByte
  | (k, b) :: m, a => if k = a then b else Memory.read m a

/-- The contents with one byte replaced, in canonical form. -/
def Memory.write : Memory → Nat → Byte → Memory
  | [], a, v => if v = erasedByte then [] else [(a, v)]
  | (k, b) :: m, a, v =>
    if a < k then (if v = erasedByte then (k, b) :: m else (a, v) :: (k, b) :: m)
    else if a = k then (if v = erasedByte then m else (a, v) :: m)
    else (k, b) :: Memory.write m a v

/-- Every listed address is above `a`. -/
def Memory.above (a : Nat) (m : Memory) : Bool := m.all (fun c => decide (a < c.1))

/-- The canonical form. -/
def Memory.wf : Memory → Bool
  | [] => true
  | (k, b) :: m => decide (b ≠ erasedByte) && Memory.above k m && Memory.wf m

/-- `count` bytes from an address on, in address order. -/
def Memory.readBytes (m : Memory) : Nat → Nat → List Byte
  | _, 0 => []
  | a, count + 1 => Memory.read m a :: Memory.readBytes m (a + 1) count

/-- Bytes stored from an address on, whatever stood there. -/
def Memory.writeBytes (m : Memory) : Nat → List Byte → Memory
  | _, [] => m
  | a, b :: bs => Memory.writeBytes (Memory.write m a b) (a + 1) bs

/-- R152, page program: "each bit that is 1 may become 0, and a bit that is 0 stays 0". -/
def Memory.program (m : Memory) : Nat → List Byte → Memory
  | _, [] => m
  | a, b :: bs => Memory.program (Memory.write m a (Memory.read m a &&& b)) (a + 1) bs

/-- The first address of a sector (R152). -/
def sectorBase (sector : Nat) : Nat := sector * 4096

/-- The address lies in the sector. -/
def inSector (sector a : Nat) : Bool := decide (sectorBase sector ≤ a ∧ a < sectorBase sector + 4096)

/-- R152, sector erase: all 4096 bytes of the sector become 0xFF. -/
def Memory.eraseSector (m : Memory) (sector : Nat) : Memory := m.filter (fun c => !inSector sector c.1)

/-- Every byte of the sector reads 0xFF (R158). -/
def Memory.sectorErased (m : Memory) (sector : Nat) : Bool :=
  m.all (fun c => !inSector sector c.1 || decide (c.2 = erasedByte))

/-- R164: "Each byte the job gave as a value other than 0xFF must read as that value." -/
def Memory.verifies (m : Memory) : Nat → List Byte → Bool
  | _, [] => true
  | a, b :: bs => (decide (b = erasedByte) || decide (Memory.read m a = b)) && Memory.verifies m (a + 1) bs

end Sys2Proof.Machine
end

