-- ==== Sys2Proof/Machine/Ops.lean ====
section
/-!
DEFINITION. The named operations over the state that the meanings share: reading and changing one record of a block,
handing a notice from one block to another (R3), raising an event (R30, R187), and finding a prompt in the catalogue.
-/

namespace Sys2Proof.Machine

namespace State

/-! ### Records -/

/-- A position record. -/
def pos (s : State) (p : Pos) : PosRec := look s.records p

/-- The state with a position record changed. -/
def modPos (s : State) (p : Pos) (f : PosRec → PosRec) : State :=
  { s with records := put s.records p (f (look s.records p)) }

/-- A link record. -/
def link (s : State) (p : Pos) : LinkRec := look s.links p

/-- The state with a link record changed. -/
def modLink (s : State) (p : Pos) (f : LinkRec → LinkRec) : State :=
  { s with links := put s.links p (f (look s.links p)) }

/-- A sequencer record. -/
def seq (s : State) (p : Pos) : SeqRec := look s.seqs p

/-- The state with a sequencer record changed. -/
def modSeq (s : State) (p : Pos) (f : SeqRec → SeqRec) : State :=
  { s with seqs := put s.seqs p (f (look s.seqs p)) }

/-- The state with a suppressor record changed. -/
def modSupp (s : State) (p : Pos) (f : SuppRec → SuppRec) : State :=
  { s with supp := put s.supp p (f (look s.supp p)) }

/-- The state with a position's mix state changed. -/
def modMix (s : State) (p : Pos) (f : MixRec → MixRec) : State :=
  { s with mix := put s.mix p (f (look s.mix p)) }

/-- A coach source record. -/
def source (s : State) (c : Source) : CoachRec := look s.coach.sources c

/-- The state with a coach source record changed. -/
def modSource (s : State) (c : Source) (f : CoachRec → CoachRec) : State :=
  { s with coach := { s.coach with sources := put s.coach.sources c (f (look s.coach.sources c)) } }

/-- A player record. -/
def player (s : State) (k : PlayerNo) : Player := look s.playerUnit.players k

/-- The state with a player record changed. -/
def modPlayer (s : State) (k : PlayerNo) (f : Player → Player) : State :=
  { s with playerUnit := { s.playerUnit with players := put s.playerUnit.players k (f (look s.playerUnit.players k)) } }

/-- A canceller record. -/
def canc (s : State) (i : CancId) : CancRec :=
  match i.canc with
  | .line => look s.echo.line i.pos
  | .acoustic => look s.echo.acoustic i.pos

/-- The state with a canceller record changed. -/
def modCanc (s : State) (i : CancId) (f : CancRec → CancRec) : State :=
  match i.canc with
  | .line => { s with echo := { s.echo with line := put s.echo.line i.pos (f (look s.echo.line i.pos)) } }
  | .acoustic => { s with echo := { s.echo with acoustic := put s.echo.acoustic i.pos (f (look s.echo.acoustic i.pos)) } }

/-- What the port controller holds for a port. -/
def port (s : State) : PortId → Port
  | .a => s.portA
  | .b => s.portB

/-- The state with a port's record replaced. -/
def setPort (s : State) (port : PortId) (x : Port) : State :=
  match port with
  | .a => { s with portA := x }
  | .b => { s with portB := x }

/-- The state with a port's record changed. -/
def modPort (s : State) (port : PortId) (f : Port → Port) : State := s.setPort port (f (s.port port))

/-! ### Notices and events -/

/-- Hands a notice from one block to another: it stands behind every notice already on its way (R3). -/
def tell (s : State) (src dst : Block) (t : Tidings) : State :=
  { s with notices := s.notices ++ [{ src := src, dst := dst, tidings := t }] }

/-- Raises an event: it carries the frame counter's value at this moment (R30) and stands behind every event raised
before it (R187). -/
def raise (s : State) (src : Block) (e : Event) : State :=
  { s with raised := s.raised ++ [{ src := src, stamp := s.highway.frameCounter, event := e }] }

end State

/-- The oldest notice from one block to another, with the notices that remain. -/
def firstNotice (src dst : Block) : List Notice → Option (Tidings × List Notice)
  | [] => none
  | n :: ns =>
    if n.src = src ∧ n.dst = dst then some (n.tidings, ns)
    else (firstNotice src dst ns).map (fun r => (r.1, n :: r.2))

/-- R3: the oldest notice from one block to another, with the state that has taken it. -/
def State.takeNotice (s : State) (src dst : Block) : Option (Tidings × State) :=
  (firstNotice src dst s.notices).map (fun r => (r.1, { s with notices := r.2 }))

/-- The tidings of every notice from one block to another, oldest first. -/
def noticesBetween (src dst : Block) (ns : List Notice) : List Tidings :=
  (ns.filter (fun n => decide (n.src = src ∧ n.dst = dst))).map Notice.tidings

/-- The notices without those from one block to another. -/
def withoutBetween (src dst : Block) (ns : List Notice) : List Notice :=
  ns.filter (fun n => !decide (n.src = src ∧ n.dst = dst))

/-- Has one block take, in order, every notice another has on its way to it. A request that includes another block's
answer finds the notices delivered before it already taken (R3). -/
def State.drain (s : State) (src dst : Block) (f : Tidings → State → State) : State :=
  (noticesBetween src dst s.notices).foldl (fun s t => f t s)
    { s with notices := withoutBetween src dst s.notices }

/-- Every position. -/
def allPos : List Pos := List.finRange 16

/-- Every player. -/
def allPlayers : List PlayerNo := List.finRange 6

/-- Every coach source. -/
def allSources : List Source := List.finRange 4

/-- The index with a value below a bound, if it lies there. -/
def index? (n v : Nat) : Option (Fin n) := if h : v < n then some ⟨v, h⟩ else none

/-! ### The catalogue -/

/-- The catalogue entry of an id (R154). -/
def State.entry? (s : State) (id : Nat) : Option Entry := s.store.catalogue.find? (fun e => e.id == id)

/-- The id is VALID in the catalogue (R7, R154). -/
def State.promptValid (s : State) (id : Nat) : Bool :=
  match s.entry? id with
  | some e => e.state == .valid
  | none => false

/-- The state with the store controller's tables changed. -/
def State.modStore (s : State) (f : Store → Store) : State := { s with store := f s.store }

/-- The state with the catalogue entries of an id changed. -/
def State.modEntry (s : State) (id : Nat) (f : Entry → Entry) : State :=
  s.modStore (fun st => { st with catalogue := st.catalogue.map (fun e => if e.id = id then f e else e) })

/-- The state with the arbiter changed. -/
def State.modArbiter (s : State) (f : Arbiter → Arbiter) : State := { s with arbiter := f s.arbiter }

/-- R157: the status that refuses a store-group request in the present store state; none in READY. -/
def State.storeRefusal (s : State) : Option Status :=
  match s.store.state with
  | .starting => some .notReady
  | .scanning => some .notReady
  | .ready => none
  | .fault => some .storeFault

/-- The number 1 advanced in a byte count, saturating at `top` (R139, R188). -/
def satSucc (top n : Nat) : Nat := if n < top then n + 1 else n

end Sys2Proof.Machine
end

