-- ==== Sys2Proof/Machine/Clock.lean ====
section
/-!
DEFINITION. The local clock: what one microsecond of it does to the timers that run on it (R34, R55, R152, R157, R161,
R163, R164, R171). No command waits while it passes (assumption 1).
-/

namespace Sys2Proof.Machine

/-- R55: a RUNNING absence timer runs down to 0 and stands there until its expiry is taken. -/
def AbsenceTimer.tick : AbsenceTimer → AbsenceTimer
  | .running t => .running (t - 1)
  | x => x

/-- R55: the absence timer of a link. -/
def LinkRec.tick (r : LinkRec) : LinkRec := { r with absenceTimer := r.absenceTimer.tick }

/-- R171: the idle timer of the load session runs down to 0. -/
def Session.tick (x : Session) : Session := { x with idle := x.idle.map (fun t => t - 1) }

/-- R157, R171: the store timer's part in the tables. -/
def Store.tick (st : Store) : Store :=
  { st with
    session := st.session.map Session.tick
    startMicros := if st.state = .starting then st.startMicros + 1 else st.startMicros }

/-- R164: a program in progress. -/
def ArbOp.tick : ArbOp → ArbOp
  | .program addr bytes owner t => .program addr bytes owner (t + 1)
  | x => x

/-- R163: an erase in progress; only unsuspended time counts. -/
def EraseOp.tick (e : EraseOp) : EraseOp := if e.suspended then e else { e with micros := e.micros + 1 }

/-- R161, R163, R164: the store timer's part at the arbiter. -/
def Arbiter.tick (a : Arbiter) : Arbiter :=
  { a with
    current := a.current.map ArbOp.tick
    erase := a.erase.map EraseOp.tick
    recovering := a.recovering.map (fun t => t + 1) }

/-- R34: the duration of a loss. -/
def Highway.tick (h : Highway) : Highway := if h.sync = .lost then { h with lossMicros := h.lossMicros + 1 } else h

/-- One microsecond of the local clock. -/
def tick (s : State) : State :=
  { s with
    links := table (fun p => (look s.links p).tick)
    highway := s.highway.tick
    store := s.store.tick
    arbiter := s.arbiter.tick }

end Sys2Proof.Machine
end

