-- ==== Sys2Proof/Machine/Messages.lean ====
section
/-!
DEFINITION. The outbound messages of a port as bytes (R181, R182): responses, events and EMPTY. "Enumerated fields. A
field whose values are a list of names … is one byte holding the place of its value in the list that its defining rule or
table gives, counting from 0." Where a field is carried only in some cases it stands as an optional field, behind a
presence byte, and where no rule gives an explicit list the order is that of assumption 12.
-/

namespace Sys2Proof.Machine

/-! ### Fields -/

/-- A field of one byte. -/
def out8 (n : Nat) : List Byte := [byte n]

/-- A field of two bytes. -/
def out16 (n : Nat) : List Byte := bigEndian 2 n

/-- A field of three bytes. -/
def out24 (n : Nat) : List Byte := bigEndian 3 n

/-- A field of four bytes. -/
def out32 (n : Nat) : List Byte := bigEndian 4 n

/-- A field of two values, on and off or set and clear. -/
def outBool (b : Bool) : List Byte := [if b then 1 else 0]

/-- An optional field. -/
def outOpt {α : Type} (f : α → List Byte) : Option α → List Byte
  | none => [0]
  | some x => 1 :: f x

/-- A variable field, behind its count byte. -/
def outBytes (bs : List Byte) : List Byte := byte bs.length :: bs

/-- A position, slot, source or player number. -/
def outFin {n : Nat} (i : Fin n) : List Byte := out8 i.val

/-- The place of a value in a list, counting from 0. -/
def placeIn {α : Type} [DecidableEq α] (x : α) (xs : List α) : List Byte := out8 (xs.idxOf x)

def outCallState (x : CallState) : List Byte := placeIn x [.idle, .preconnect, .talk, .held]
def outHoldCause (x : HoldCause) : List Byte := placeIn x [.command, .agentAbsent]
def outEar (x : Ear) : List Byte := placeIn x [.left, .right]
def outOneShot (x : OneShot) : List Byte := placeIn x [.connect, .recorded, .announce]
def outOutcome (x : WhisperOutcome) : List Byte := placeIn x [.ended, .cut, .skipped, .cancelled]
def outAction (x : AbsentAction) : List Byte := placeIn x [.deferred, .none, .held]
def outMuteSource (x : MuteSource) : List Byte := placeIn x [.button, .request]
def outLinkState (x : LinkState) : List Byte := placeIn x [.disabled, .detect, .negotiate, .active, .recovery, .failed]
def outRecoverCause (x : RecoverCause) : List Byte := placeIn x [.request, .errors, .adapter]
def outDownCause (x : DownCause) : List Byte := placeIn x [.presenceLost, .disabled]
def outSync (x : SyncState) : List Byte := placeIn x [.acquiring, .inSync, .lost]
def outRestoreCause (x : RestoreCause) : List Byte := placeIn x [.recovery, .start]
def outCanc (x : Canc) : List Byte := placeIn x [.line, .acoustic]
def outCancMode (x : CancMode) : List Byte := placeIn x [.off, .frozen, .adapt]
def outAttachment (x : Attachment) : List Byte := placeIn x [.unattached, .pending, .attached]
def outCoachMode (x : CoachMode) : List Byte := placeIn x [.monitor, .coach, .barge]
def outDetachCause (x : DetachCause) : List Byte := placeIn x [.request, .cleared]
def outRole (x : Role) : List Byte := placeIn x [.pool, .music]
def outPlayerState (x : PlayerState) : List Byte := placeIn x [.idle, .priming, .playing]
def outFetch (x : FetchState) : List Byte := placeIn x [.none, .live, .stale]
def outWhisperEnd (x : EndCause) : List Byte := placeIn x [.reachedEnd, .cancelled, .cleared]
def outAnnounceEnd (x : EndCause) : List Byte := placeIn x [.reachedEnd, .resumed, .cleared]
def outWhisperSkip (x : SkipCause) : List Byte := placeIn x [.waitLimit, .retired, .noPrompt]
def outAnnounceSkip (x : SkipCause) : List Byte := placeIn x [.busy, .noPrompt, .retired]
def outPromptState (x : PromptState) : List Byte := placeIn x [.writing, .valid, .retiring]
def outMark (x : Mark) : List Byte := placeIn x [.pending, .done, .failed]
def outStoreState (x : StoreState) : List Byte := placeIn x [.starting, .scanning, .ready, .fault]
def outFaultCause (x : FaultCause) : List Byte := placeIn x [.start, .stuck]
def outFlashOp (x : FlashOp) : List Byte := placeIn x [.program, .erase]
def outFlashCause (x : FlashCause) : List Byte := placeIn x [.timeout, .verify]
def outLoadCause (x : LoadCause) : List Byte := placeIn x [.abandoned, .idle, .timeout, .verify, .storeFault]
def outResetCause (x : ResetCause) : List Byte := placeIn x [.powerOn, .pin]

/-- R6: the cause, and for WHISPER_END its outcome as an optional field. -/
def outCallCause : CallCause → List Byte
  | .request => 0 :: outOpt outOutcome none
  | .whisperEnd o => 1 :: outOpt outOutcome (some o)
  | .absence => 2 :: outOpt outOutcome none
  | .linkReturn => 3 :: outOpt outOutcome none

/-- R103, R120: the status, and the player as an optional field. -/
def outShotStatus : ShotStatus → List Byte
  | .queued => 0 :: outOpt outFin (none : Option PlayerNo)
  | .assigned k => 1 :: outOpt outFin (some k)

/-- Section 11.2: a set of request groups. -/
def groupsByte (g : Groups) : Byte :=
  byte (g.call.toNat + 2 * g.station.toNat + 4 * g.coach.toNat + 8 * g.store.toNat)

/-- The set of request groups a byte holds, if it names only the four (R186). -/
def groupsOf? (n : Nat) : Option Groups :=
  if n < 16 then some { call := n.testBit 0, station := n.testBit 1, coach := n.testBit 2, store := n.testBit 3 }
  else none

/-- Section 11.2: the seven subscription flags, with bit c − 1 for the class numbered c. -/
def flagsByte (f : Flags) : Byte :=
  byte (f.call.toNat + 2 * f.station.toNat + 4 * f.signal.toNat + 8 * f.playback.toNat + 16 * f.coach.toNat
    + 32 * f.store.toNat + 64 * f.fault.toNat)

/-- The number of a status (R181): its place in the Introduction's list, OK being 0 and UNKNOWN 15. -/
def statusByte (s : Status) : Byte :=
  byte ([Status.ok, .queueFull, .charter, .latched, .conflict, .state, .busy, .range, .slotInUse, .inUse, .noPrompt,
    .exists_, .noSpace, .notReady, .storeFault, .unknown].idxOf s)

/-! ### Events -/

/-- The class of an event (R182). -/
def Event.classOf : Event → EventClass
  | .callState .. | .agentAbsent .. | .agentReturned .. | .holdLimit .. => .call
  | .presenceChanged .. | .linkUp .. | .linkDown .. | .linkRecovering .. | .linkFailed .. | .renegotiated ..
  | .autonomousChange .. | .muteChanged .. => .station
  | .tapShort .. | .tapToppedUp .. | .cancellerReset .. => .signal
  | .whisperStarted .. | .whisperEnded .. | .whisperCut .. | .whisperSkipped .. | .announceStarted ..
  | .announceEnded .. | .announceSkipped .. | .underrun .. => .playback
  | .coachAttached .. | .coachDetached .. | .coachModeChanged .. => .coach
  | .storeReady .. | .sectorBad .. | .retireDone .. | .loadDone .. | .loadFailed .. => .store
  | .restart .. | .syncLost | .syncRestored .. | .flashTimeout .. | .eventsLost .. => .fault

/-- The class byte (R181). -/
def classByte (c : EventClass) : Byte :=
  byte ([EventClass.call, .station, .signal, .playback, .coach, .store, .fault].idxOf c + 1)

/-- The event code within its class (R182). -/
def Event.code : Event → Nat
  | .callState .. => 1
  | .agentAbsent .. => 2
  | .agentReturned .. => 3
  | .holdLimit .. => 4
  | .presenceChanged .. => 1
  | .linkUp .. => 2
  | .linkDown .. => 3
  | .linkRecovering .. => 4
  | .linkFailed .. => 5
  | .renegotiated .. => 6
  | .autonomousChange .. => 7
  | .muteChanged .. => 8
  | .tapShort .. => 1
  | .tapToppedUp .. => 2
  | .cancellerReset .. => 3
  | .whisperStarted .. => 1
  | .whisperEnded .. => 2
  | .whisperCut .. => 3
  | .whisperSkipped .. => 4
  | .announceStarted .. => 5
  | .announceEnded .. => 6
  | .announceSkipped .. => 7
  | .underrun .. => 8
  | .coachAttached .. => 1
  | .coachDetached .. => 2
  | .coachModeChanged .. => 3
  | .storeReady .. => 1
  | .sectorBad .. => 2
  | .retireDone .. => 3
  | .loadDone .. => 4
  | .loadFailed .. => 5
  | .restart .. => 1
  | .syncLost => 2
  | .syncRestored .. => 3
  | .flashTimeout .. => 4
  | .eventsLost .. => 5

/-- The object and the fields an event carries (R181), in the order of the event tables of the chapters, each in the fewest whole
bytes its range needs (assumption 12; a waited_frames above 16777215 sends its low 24 bits: 59). -/
def Event.payload : Event → List Byte
  | .callState p n old new cause why last =>
    outFin p ++ [n] ++ outCallState old ++ outCallState new ++ outOpt outHoldCause cause ++ outCallCause why
      ++ outOpt out24 last
  | .agentAbsent p n action => outFin p ++ [n] ++ outAction action
  | .agentReturned p n resumed => outFin p ++ [n] ++ outBool resumed
  | .holdLimit p n h limit elapsed => outFin p ++ [n, h] ++ out24 limit ++ out24 elapsed
  | .presenceChanged p present => outFin p ++ outBool present
  | .linkUp p lanes => outFin p ++ out8 lanes
  | .linkDown p cause => outFin p ++ outDownCause cause
  | .linkRecovering p cause errors => outFin p ++ outRecoverCause cause ++ out8 errors
  | .linkFailed p offer => outFin p ++ outOpt out8 offer
  | .renegotiated p lanes => outFin p ++ out8 lanes
  | .autonomousChange p before lanes => outFin p ++ out8 before ++ out8 lanes
  | .muteChanged p mute source => outFin p ++ outBool mute ++ outMuteSource source
  | .tapShort p c requested held => outFin p ++ outCanc c ++ out8 requested ++ out8 held
  | .tapToppedUp p c requested held => outFin p ++ outCanc c ++ out8 requested ++ out8 held
  | .cancellerReset p c held => outFin p ++ outCanc c ++ out8 held
  | .whisperStarted p n kind prompt k limit =>
    outFin p ++ [n] ++ outOneShot kind ++ out8 prompt ++ outFin k ++ out16 limit
  | .whisperEnded p n kind prompt cause played =>
    outFin p ++ [n] ++ outOneShot kind ++ out8 prompt ++ outWhisperEnd cause ++ out24 played
  | .whisperCut p n kind prompt played => outFin p ++ [n] ++ outOneShot kind ++ out8 prompt ++ out24 played
  | .whisperSkipped p n kind prompt cause waited =>
    outFin p ++ [n] ++ outOneShot kind ++ out8 prompt ++ outWhisperSkip cause ++ out24 waited
  | .announceStarted p n prompt k => outFin p ++ [n] ++ out8 prompt ++ outFin k
  | .announceEnded p n prompt cause played => outFin p ++ [n] ++ out8 prompt ++ outAnnounceEnd cause ++ out24 played
  | .announceSkipped p n prompt cause elapsed =>
    outFin p ++ [n] ++ outOpt out8 prompt ++ outAnnounceSkip cause ++ outOpt out24 elapsed
  | .underrun k role prompt served missing =>
    outFin k ++ outRole role ++ out8 prompt ++ outOpt (fun x => outFin x.1 ++ [x.2.1] ++ outOneShot x.2.2) served
      ++ out8 missing
  | .coachAttached c p n mode => outFin c ++ outFin p ++ [n] ++ outCoachMode mode
  | .coachDetached c p n cause => outFin c ++ outFin p ++ [n] ++ outDetachCause cause
  | .coachModeChanged c p n old new => outFin c ++ outFin p ++ [n] ++ outCoachMode old ++ outCoachMode new
  | .storeReady valid torn retired invalid erasing =>
    out8 valid ++ out16 torn ++ out16 retired ++ out16 invalid ++ out16 erasing
  | .sectorBad sector op cause id => out16 sector ++ outFlashOp op ++ outFlashCause cause ++ outOpt out8 id
  | .retireDone id freed bad mark => out8 id ++ out16 freed ++ out16 bad ++ outMark mark
  | .loadDone id first final length released => out8 id ++ out16 first ++ out16 final ++ out24 length ++ out16 released
  | .loadFailed id cause cursor sector => out8 id ++ outLoadCause cause ++ out24 cursor ++ outOpt out16 sector
  | .restart cause => outResetCause cause
  | .syncLost => []
  | .syncRestored cause millis => outRestoreCause cause ++ out16 millis
  | .flashTimeout cause => outFaultCause cause
  | .eventsLost lost faults => out16 lost ++ out8 faults

/-- An event message (R181): kind, sequence number, length, class, event code, frame stamp, payload. -/
def eventMessage (q : QueuedEvent) : List Byte :=
  [0x03, q.seq] ++ out16 (6 + q.event.payload.length) ++ [classByte q.event.classOf, byte q.event.code]
    ++ out32 q.stamp.toNat ++ q.event.payload

/-- A response message (R181): kind, tag, length, request code, status, payload. -/
def responseMessage (r : Response) : List Byte :=
  [0x02, r.tag] ++ out16 (2 + r.payload.length) ++ [r.code, statusByte r.status] ++ r.payload

/-- The EMPTY message (R181). -/
def emptyMessage : List Byte := [0, 0, 0, 0]

end Sys2Proof.Machine
end

