-- ==== Sys2Proof/Machine/Flags.lean ====
section
/-!
DEFINITION. The flags of a port: its subscription flags (section 11.5), the overflow flag of its event queue (R188) and the
attention line, which is not stored but read off what waits (R185).
-/

namespace Sys2Proof.Machine

/-- R185: "The attention line is asserted exactly when that port has a response or event waiting." -/
def Port.attention (x : Port) : Bool := !x.answered.isEmpty || !x.events.isEmpty

/-- The subscription flag of a class. -/
def Flags.has (f : Flags) : EventClass → Bool
  | .call => f.call
  | .station => f.station
  | .signal => f.signal
  | .playback => f.playback
  | .coach => f.coach
  | .store => f.store
  | .fault => f.fault

/-- R187: a copy is offered to a port whose flag for the class is on; "A FAULT event is offered to both ports." -/
def Port.wants (x : Port) (e : Event) : Bool :=
  match e.classOf with
  | .fault => true
  | c => x.subs.has c

/-- R187: the flags named in `names` take their bit of `values`. -/
def Flags.write (f : Flags) (names values : Nat) : Flags :=
  { call := if names.testBit 0 then values.testBit 0 else f.call
    station := if names.testBit 1 then values.testBit 1 else f.station
    signal := if names.testBit 2 then values.testBit 2 else f.signal
    playback := if names.testBit 3 then values.testBit 3 else f.playback
    coach := if names.testBit 4 then values.testBit 4 else f.coach
    store := if names.testBit 5 then values.testBit 5 else f.store
    fault := f.fault }

/-- R188: puts an event into the queue with the next sequence number. -/
def Port.enqueue (x : Port) (stamp : BitVec 32) (e : Event) : Port :=
  { x with events := x.events ++ [{ seq := x.seq, stamp := stamp, event := e }], seq := x.seq + 1 }

/-- R188: counts a dropped event: "The FAULT count also rises by 1 when the event is of the FAULT class." -/
def Port.countLost (x : Port) (e : Event) : Port :=
  { x with overflow := true
           lost := satSucc 65535 x.lost
           lostFaults := if e.classOf = .fault then satSucc 255 x.lostFaults else x.lostFaults }

/-- R188: queues the EVENTS_LOST notice, clears the flag and returns both counts to 0. -/
def Port.reportLost (x : Port) (stamp : BitVec 32) : Port :=
  { x.enqueue stamp (.eventsLost x.lost x.lostFaults) with overflow := false, lost := 0, lostFaults := 0 }

/-- R188: an event offered to a port's event queue of 32 places. -/
def Port.offer (x : Port) (stamp : BitVec 32) (e : Event) : Port :=
  if 32 ≤ x.events.length then x.countLost e
  else if x.overflow then
    if x.events.length + 2 ≤ 32 then (x.reportLost stamp).enqueue stamp e
    else (x.countLost e).reportLost stamp
  else x.enqueue stamp e

end Sys2Proof.Machine
end

