-- ==== Sys2Proof/Machine/Operands.lean ====
section
/-!
DEFINITION. The fields of requests (R181, R182): "A request's payload holds the fields its rule names, in the order it
names them, each in the fewest whole bytes its range needs. An optional field is preceded by a presence byte … A variable
field … is preceded by a count byte." A payload that is not exactly the request's fields gives none, and the port
controller then answers RANGE (R184). The values are not yet held against their ranges: the owners do that.
-/

namespace Sys2Proof.Machine

/-- A field of one byte. -/
def field8 : List Byte → Option (Nat × List Byte)
  | b :: r => some (b.toNat, r)
  | [] => none

/-- A field of two bytes, most significant first. -/
def field16 : List Byte → Option (Nat × List Byte)
  | b :: c :: r => some (b.toNat * 256 + c.toNat, r)
  | _ => none

/-- A field of three bytes, most significant first. -/
def field24 : List Byte → Option (Nat × List Byte)
  | b :: c :: d :: r => some ((b.toNat * 256 + c.toNat) * 256 + d.toNat, r)
  | _ => none

/-- An optional field: a presence byte 0x00 or 0x01 before it (R181). Another presence byte fits no field (assumption 11). -/
def fieldOpt (f : List Byte → Option (Nat × List Byte)) : List Byte → Option ((Option Nat) × List Byte)
  | b :: r =>
    if b = 0 then some (none, r)
    else if b = 1 then (f r).map (fun x => (some x.1, x.2))
    else none
  | [] => none

/-- A variable field: a count byte before its bytes (R181). -/
def fieldBytes (count : Nat → Nat) : List Byte → Option ((List Byte) × List Byte)
  | b :: r => if (count b.toNat) ≤ r.length then some (r.take (count b.toNat), r.drop (count b.toNat)) else none
  | [] => none

/-- An optional variable field. -/
def fieldOptBytes : List Byte → Option ((Option (List Byte)) × List Byte)
  | b :: r =>
    if b = 0 then some (none, r)
    else if b = 1 then (fieldBytes id r).map (fun x => (some x.1, x.2))
    else none
  | [] => none

/-- The value of a parse that leaves no byte over (R184, step 3). -/
def whole {α : Type} : Option (α × List Byte) → Option α
  | some (x, []) => some x
  | _ => none

/-- A field of one byte with two values, on and off (R182); another byte is out of its range (assumption 11). -/
def onOff? : Nat → Option Bool
  | 0 => some false
  | 1 => some true
  | _ => none

/-- An ear (R1). -/
def ear? : Nat → Option Ear
  | 0 => some .left
  | 1 => some .right
  | _ => none

/-- A canceller mode (R58). -/
def cancMode? : Nat → Option CancMode
  | 0 => some .off
  | 1 => some .frozen
  | 2 => some .adapt
  | _ => none

/-- A coach mode (R111). -/
def coachMode? : Nat → Option CoachMode
  | 0 => some .monitor
  | 1 => some .coach
  | 2 => some .barge
  | _ => none

/-- An optional field held against its range: none where the field is given and out of range. -/
def optWith {α : Type} (f : Nat → Option α) : Option Nat → Option (Option α)
  | none => some none
  | some n => (f n).map some

/-- A number held against its range. -/
def within (lo hi : Nat) (n : Nat) : Option Nat := if lo ≤ n ∧ n ≤ hi then some n else none

/-! ### The fields of each request, in the order its rule names them -/

/-- BIND_CALL (section 1.4). -/
structure BindCallArgs where
  position : Nat
  rxSlot : Nat
  txSlot : Nat
  whisperPrompt : Option Nat
  preconnectPlayer : Option Nat
  deriving DecidableEq, Repr

/-- The fields of BIND_CALL. -/
def parseBindCall (b : List Byte) : Option BindCallArgs := whole do
  let (p, b) ← field8 b
  let (rx, b) ← field8 b
  let (tx, b) ← field8 b
  let (w, b) ← fieldOpt field8 b
  let (m, b) ← fieldOpt field8 b
  some (⟨p, rx, tx, w, m⟩, b)

/-- HOLD and SET_HOLD (section 1.6). -/
structure HoldArgs where
  position : Nat
  holdPlayer : Option Nat
  announcePrompt : Option Nat
  announceInterval : Nat
  announceAtStart : Nat
  holdLimit : Nat
  deriving DecidableEq, Repr

/-- The fields of HOLD and SET_HOLD. -/
def parseHold (b : List Byte) : Option HoldArgs := whole do
  let (p, b) ← field8 b
  let (m, b) ← fieldOpt field8 b
  let (a, b) ← fieldOpt field8 b
  let (i, b) ← field16 b
  let (s, b) ← field8 b
  let (l, b) ← field16 b
  some (⟨p, m, a, i, s, l⟩, b)

/-- A request of one field of one byte: UNHOLD, CLEAR, CANCEL_WHISPER, QUERY_POSITION and the link requests (a position),
DETACH_COACH (a source), STOP_MUSIC, RELEASE_MUSIC and QUERY_PLAYER (a player), RETIRE_PROMPT and QUERY_PROMPT (an id),
LIST_PROMPTS (a start id), READ_NEXT (a count), SET_CHARTER (a set of groups). -/
def parseOne (b : List Byte) : Option Nat := whole (field8 b)

/-- A request of two fields of one byte: SET_MUTE (position, value), SET_LINK (position, max_lanes), WHISPER (position,
prompt), SUBSCRIBE (classes, flags). -/
def parseTwo (b : List Byte) : Option (Nat × Nat) := whole do
  let (x, b) ← field8 b
  let (y, b) ← field8 b
  some ((x, y), b)

/-- SET_POSITION (R22). -/
structure SetPositionArgs where
  position : Nat
  earLevel : Option Nat
  sendLevel : Option Nat
  duckDepth : Option Nat
  whisperEar : Option Nat
  absenceGrace : Option Nat
  absenceHold : Option Nat
  autoResume : Option Nat
  whisperLimit : Option Nat
  connectWaitLimit : Option Nat
  deriving DecidableEq, Repr

/-- The fields of SET_POSITION. -/
def parseSetPosition (b : List Byte) : Option SetPositionArgs := whole do
  let (p, b) ← field8 b
  let (e, b) ← fieldOpt field16 b
  let (s, b) ← fieldOpt field16 b
  let (d, b) ← fieldOpt field16 b
  let (w, b) ← fieldOpt field8 b
  let (g, b) ← fieldOpt field16 b
  let (h, b) ← fieldOpt field8 b
  let (r, b) ← fieldOpt field8 b
  let (l, b) ← fieldOpt field8 b
  let (c, b) ← fieldOpt field8 b
  some (⟨p, e, s, d, w, g, h, r, l, c⟩, b)

/-- SET_ECHO (section 4.8). -/
structure SetEchoArgs where
  position : Nat
  canceller : Nat
  mode : Option Nat
  requested : Option Nat
  stepCode : Option Nat
  dtCode : Option Nat
  hangover : Option Nat
  pAct : Option Nat
  deriving DecidableEq, Repr

/-- The fields of SET_ECHO. -/
def parseSetEcho (b : List Byte) : Option SetEchoArgs := whole do
  let (p, b) ← field8 b
  let (c, b) ← field8 b
  let (m, b) ← fieldOpt field8 b
  let (r, b) ← fieldOpt field8 b
  let (s, b) ← fieldOpt field8 b
  let (d, b) ← fieldOpt field8 b
  let (h, b) ← fieldOpt field8 b
  let (a, b) ← fieldOpt field16 b
  some (⟨p, c, m, r, s, d, h, a⟩, b)

/-- SET_SUPPRESSOR (R91). -/
structure SetSuppressorArgs where
  position : Nat
  alphaQ : Option Nat
  gMin : Option Nat
  nlp : Option Nat
  deriving DecidableEq, Repr

/-- The fields of SET_SUPPRESSOR. -/
def parseSetSuppressor (b : List Byte) : Option SetSuppressorArgs := whole do
  let (p, b) ← field8 b
  let (a, b) ← fieldOpt field8 b
  let (g, b) ← fieldOpt field16 b
  let (n, b) ← fieldOpt field8 b
  some (⟨p, a, g, n⟩, b)

/-- SET_COACH_SOURCE (R112). -/
structure SetCoachSourceArgs where
  source : Nat
  rxSlot : Option Nat
  txSlot : Option Nat
  deriving DecidableEq, Repr

/-- The fields of SET_COACH_SOURCE. -/
def parseSetCoachSource (b : List Byte) : Option SetCoachSourceArgs := whole do
  let (c, b) ← field8 b
  let (r, b) ← fieldOpt field8 b
  let (t, b) ← fieldOpt field8 b
  some (⟨c, r, t⟩, b)

/-- The fields of ATTACH_COACH (R113): source, position, mode. -/
def parseAttachCoach (b : List Byte) : Option (Nat × Nat × Nat) := whole do
  let (c, b) ← field8 b
  let (p, b) ← field8 b
  let (m, b) ← field8 b
  some ((c, p, m), b)

/-- The fields of SET_COACH_MODE (R115): source, mode, coach_level. -/
def parseSetCoachMode (b : List Byte) : Option (Nat × Option Nat × Option Nat) := whole do
  let (c, b) ← field8 b
  let (m, b) ← fieldOpt field8 b
  let (l, b) ← fieldOpt field16 b
  some ((c, m, l), b)

/-- The fields of SET_MUSIC (R140): player, prompt, level. -/
def parseSetMusic (b : List Byte) : Option (Nat × Nat × Nat) := whole do
  let (k, b) ← field8 b
  let (p, b) ← field8 b
  let (l, b) ← field16 b
  some ((k, p, l), b)

/-- The fields of LOAD_OPEN (R172): id, max_length. -/
def parseLoadOpen (b : List Byte) : Option (Nat × Nat) := whole do
  let (i, b) ← field8 b
  let (m, b) ← field24 b
  some ((i, m), b)

/-- The bytes of LOAD_DATA (R173): a count byte of 0x00 stands for 256 (R181). -/
def parseLoadData (b : List Byte) : Option (List Byte) :=
  whole (fieldBytes (fun n => if n = 0 then 256 else n) b)

/-- LOAD_COMMIT (R175). -/
structure LoadCommitArgs where
  length : Nat
  level : Nat
  loopPoint : Option Nat
  label : Option (List Byte)
  deriving DecidableEq, Repr

/-- The fields of LOAD_COMMIT. -/
def parseLoadCommit (b : List Byte) : Option LoadCommitArgs := whole do
  let (n, b) ← field24 b
  let (l, b) ← field16 b
  let (o, b) ← fieldOpt field24 b
  let (t, b) ← fieldOptBytes b
  some (⟨n, l, o, t⟩, b)

/-- The fields of READ_STORE (R179): address, count. -/
def parseReadStore (b : List Byte) : Option (Nat × Nat) := whole do
  let (a, b) ← field24 b
  let (n, b) ← field8 b
  some ((a, n), b)

/-- A request that carries no field. -/
def parseNone (b : List Byte) : Option Unit := if b = [] then some () else none

/-! ### Request codes (R182) -/

/-- The request codes, in the order of the table of section 11.8. -/
inductive ReqCode where
  | bindCall | hold | setHold | unhold | clear | setMute | setPosition | setEcho | setSuppressor | setLink | linkEnable
  | linkDisable | linkRetrain | whisper | cancelWhisper | setCoachSource | attachCoach | setCoachMode | detachCoach
  | setMusic | stopMusic | releaseMusic | loadOpen | loadData | loadCommit | loadAbandon | retirePrompt | queryPosition
  | queryPlayer | queryPrompt | listPrompts | storeStatus | identify | readStore | readNext | setCharter | subscribe
  deriving DecidableEq, Repr

/-- The request codes from 1 on (R182). -/
def allCodes : List ReqCode :=
  [.bindCall, .hold, .setHold, .unhold, .clear, .setMute, .setPosition, .setEcho, .setSuppressor, .setLink, .linkEnable,
   .linkDisable, .linkRetrain, .whisper, .cancelWhisper, .setCoachSource, .attachCoach, .setCoachMode, .detachCoach,
   .setMusic, .stopMusic, .releaseMusic, .loadOpen, .loadData, .loadCommit, .loadAbandon, .retirePrompt, .queryPosition,
   .queryPlayer, .queryPrompt, .listPrompts, .storeStatus, .identify, .readStore, .readNext, .setCharter, .subscribe]

/-- The request a code byte names; "Code 0 and codes above 37 name no request." -/
def codeOf (b : Byte) : Option ReqCode := if b = 0 then none else allCodes[b.toNat - 1]?

/-- The group of a request (section 11.8); none for the query requests, which are open to both ports (R184). -/
def groupOf : ReqCode → Option (Groups → Bool)
  | .bindCall | .hold | .setHold | .unhold | .clear | .setMute => some Groups.call
  | .setPosition | .setEcho | .setSuppressor | .setLink | .linkEnable | .linkDisable | .linkRetrain => some Groups.station
  | .whisper | .cancelWhisper | .setCoachSource | .attachCoach | .setCoachMode | .detachCoach => some Groups.coach
  | .setMusic | .stopMusic | .releaseMusic | .loadOpen | .loadData | .loadCommit | .loadAbandon | .retirePrompt =>
    some Groups.store
  | .queryPosition | .queryPlayer | .queryPrompt | .listPrompts | .storeStatus | .identify | .readStore | .readNext
  | .setCharter | .subscribe => none

/-- R184, step 3: the payload is exactly the fields of its request. -/
def payloadFits (c : ReqCode) (b : List Byte) : Bool :=
  match c with
  | .bindCall => (parseBindCall b).isSome
  | .hold | .setHold => (parseHold b).isSome
  | .unhold | .clear | .linkEnable | .linkDisable | .linkRetrain | .cancelWhisper | .detachCoach | .stopMusic
  | .releaseMusic | .retirePrompt | .queryPosition | .queryPlayer | .queryPrompt | .listPrompts | .readNext
  | .setCharter => (parseOne b).isSome
  | .setMute | .setLink | .whisper | .subscribe => (parseTwo b).isSome
  | .setPosition => (parseSetPosition b).isSome
  | .setEcho => (parseSetEcho b).isSome
  | .setSuppressor => (parseSetSuppressor b).isSome
  | .setCoachSource => (parseSetCoachSource b).isSome
  | .attachCoach => (parseAttachCoach b).isSome
  | .setCoachMode => (parseSetCoachMode b).isSome
  | .setMusic => (parseSetMusic b).isSome
  | .loadOpen => (parseLoadOpen b).isSome
  | .loadData => (parseLoadData b).isSome
  | .loadCommit => (parseLoadCommit b).isSome
  | .readStore => (parseReadStore b).isSome
  | .loadAbandon | .storeStatus | .identify => (parseNone b).isSome

/-- The owners that take requests one after another, each in an order of its own (R3, R59, R84, R111, R135, R155, R184). A
record or a link is named by the position byte of its request. -/
inductive Owner where
  | record (position : Nat)
  | link (position : Nat)
  | echo
  | supp
  | coach
  | player
  | store
  | controller
  deriving DecidableEq, Repr

/-- The owner a request is carried to (R184). -/
def ownerOf (c : ReqCode) (payload : List Byte) : Owner :=
  match c with
  | .bindCall | .hold | .setHold | .unhold | .clear | .setMute | .setPosition | .whisper | .cancelWhisper
  | .queryPosition => .record ((payload.headD 0).toNat)
  | .setLink | .linkEnable | .linkDisable | .linkRetrain => .link ((payload.headD 0).toNat)
  | .setEcho => .echo
  | .setSuppressor => .supp
  | .setCoachSource | .attachCoach | .setCoachMode | .detachCoach => .coach
  | .setMusic | .stopMusic | .releaseMusic | .queryPlayer => .player
  | .loadOpen | .loadData | .loadCommit | .loadAbandon | .retirePrompt | .queryPrompt | .listPrompts | .storeStatus =>
    .store
  | .identify | .readStore | .readNext | .setCharter | .subscribe => .controller

end Sys2Proof.Machine
end

