-- ==== Sys2Proof/Machine/Intake.lean ====
section
/-!
DEFINITION. The request slots of a port: intake (R180, R183), the port controller's checks and carriage (R184), and the
queuing of responses (R184, R185).
-/

namespace Sys2Proof.Machine

/-- Every request slot, the lowest-numbered first. -/
def allSlots : List ReqSlot := List.finRange 4

/-- The slot is empty. -/
def SlotHolds.isEmpty : SlotHolds → Bool
  | .empty => true
  | _ => false

/-- R180: the number of request slots in use. -/
def Port.slotsInUse (x : Port) : Nat := allSlots.countP (fun i => !(look x.slots i).isEmpty)

/-- R183: the lowest-numbered empty slot. -/
def Port.emptySlot (x : Port) : Option ReqSlot := allSlots.find? (fun i => (look x.slots i).isEmpty)

/-- R180: the intake answer, sent on data out on the first three of the `after` bytes that follow the message, and 0x00 on the
others. -/
def Port.answerIntake (x : Port) (st : Status) (tag : Byte) (after : Nat) : Port :=
  { x with dataOut := [statusByte st, tag, byte x.slotsInUse] ++ List.replicate (after - 3) 0 }

/-- R183: the intake of a well-formed request. -/
def Port.takeIn (x : Port) (tag code : Byte) (payload : List Byte) (after : Nat) : Port :=
  match x.emptySlot with
  | some i =>
    ({ x with slots := put x.slots i (.request tag code payload false), intake := x.intake ++ [i] }).answerIntake .ok tag after
  | none => x.answerIntake .queueFull tag after

/-- R180: how many bytes the master clocks after the message: a malformed message ends with its length field. -/
def bytesAfter : List Byte → Nat
  | kind :: _ :: hi :: lo :: rest =>
    let length := hi.toNat * 256 + lo.toNat
    if kind ≠ 1 ∨ length = 0 ∨ 511 < length then rest.length else rest.length - length
  | _ => 0

/-- R180: a write transaction, given the bytes after its kind byte. A message is malformed when its kind byte is not
REQUEST or its length is 0 or above 511; a message shorter than its length is discarded. -/
def Port.writeTransaction (x : Port) (msg : List Byte) : Port :=
  match msg with
  | kind :: tag :: hi :: lo :: rest =>
    let length := hi.toNat * 256 + lo.toNat
    if kind ≠ 1 ∨ length = 0 ∨ 511 < length then x.answerIntake .unknown tag (bytesAfter msg)
    else if rest.length < length then { x with dataOut := [] }
    else x.takeIn tag (rest.headD 0) ((rest.take length).tail) (bytesAfter msg)
  | _ => { x with dataOut := [] }

/-! ### The port controller's checks (R184) -/

/-- R184, step 2: the request is open to both ports or its group is in the port's charter. -/
def Groups.allows (g : Groups) (c : ReqCode) : Bool :=
  match groupOf c with
  | none => true
  | some f => f g

/-- The owner a slot's request is carried to. -/
def SlotHolds.owner : SlotHolds → Owner
  | .request _ code payload _ =>
    match codeOf code with
    | some c => ownerOf c payload
    | none => .controller
  | _ => .controller

/-- The request in the slot has been carried, or would be carried to a block other than the port controller if the port
controller took it now. -/
def Port.passes (x : Port) (i : ReqSlot) : Bool :=
  match look x.slots i with
  | .request _ code payload carried =>
    carried ||
      (match codeOf code with
       | some c => decide (ownerOf c payload ≠ .controller) && x.charter.allows c && payloadFits c payload
       | none => false)
  | _ => false

/-- The slots whose requests were taken in before this slot's and still wait for their owners. -/
def Port.before (x : Port) (i : ReqSlot) : List ReqSlot := x.intake.takeWhile (fun j => decide (j ≠ i))

/-- R184: the port controller comes to this slot's request: it waits, and every request taken in before it has been carried or
would be. -/
def Port.reaches (x : Port) (i : ReqSlot) : Bool := x.intake.contains i && (x.before i).all x.passes

/-- R184: no request taken in before this slot's still waits for the same owner. -/
def Port.ownerFree (x : Port) (i : ReqSlot) : Bool :=
  (x.before i).all (fun j => decide ((look x.slots j).owner ≠ (look x.slots i).owner))

/-- R184: this slot's request may be taken by its owner now. -/
def Port.mayTake (x : Port) (i : ReqSlot) : Bool := x.reaches i && x.ownerFree i

/-- What comes of a request when its owner is to take it. -/
inductive Admission where
  | wait
  | refused (st : Status)
  | carried (payload : List Byte)
  deriving DecidableEq, Repr

/-- R184, step 4: the request goes to its owner, which takes it once no earlier request waits there. -/
def Port.carriage (x : Port) (i : ReqSlot) (payload : List Byte) : Admission :=
  if x.ownerFree i then .carried payload else .wait

/-- R184, steps 2 to 4, of the request of code `c` in a slot. A request refused at step 2 or 3 reaches no owner, so it waits for
none. -/
def Port.admission (x : Port) (i : ReqSlot) (c : ReqCode) : Admission :=
  match look x.slots i with
  | .request _ code payload carried =>
    if codeOf code = some c ∧ x.reaches i = true then
      if carried then x.carriage i payload
      else if x.charter.allows c then
        if payloadFits c payload then x.carriage i payload else .refused .range
      else .refused .charter
    else .wait
  | _ => .wait

/-- A request marked as carried. -/
def SlotHolds.markCarried : SlotHolds → SlotHolds
  | .request tag code payload _ => .request tag code payload true
  | h => h

/-- R184: the requests taken in before this slot's are carried. -/
def Port.carryBefore (x : Port) (i : ReqSlot) : Port :=
  { x with slots := (x.before i).foldl (fun t j => put t j (look t j).markCarried) x.slots }

/-- R184: queues the response of the slot's request: it carries the request's tag and code. -/
def Port.respond (x : Port) (i : ReqSlot) (st : Status) (payload : List Byte) : Port :=
  match look x.slots i with
  | .request tag code _ _ =>
    { x with slots := put x.slots i (.response { tag := tag, code := code, status := st, payload := payload })
             intake := x.intake.filter (fun j => decide (j ≠ i))
             answered := x.answered ++ [i] }
  | _ => x

/-- The owner has taken the slot's request and will answer later (R113, R179): the request keeps its slot. -/
def Port.defer (x : Port) (i : ReqSlot) : Port := { x with intake := x.intake.filter (fun j => decide (j ≠ i)) }

/-! ### The answers of reads (R179) -/

/-- R179: the refusals that have come to the head of a port's reads are answered. -/
def Port.answerHeld : List (ReqSlot × Option Status) → Port → Port
  | (i, some st) :: rest, x => Port.answerHeld rest (x.respond i st [])
  | reads, x => { x with reads := reads }

/-- R179: a read is refused: at once where no earlier read of the port is still to be answered, and else in its turn. -/
def Port.refuseRead (x : Port) (i : ReqSlot) (st : Status) : Port :=
  if x.reads = [] then x.respond i st [] else { x.defer i with reads := x.reads ++ [(i, some st)] }

/-- R179: an accepted read: the cursor moves at once, and the answer comes in the read's turn. -/
def Port.acceptRead (x : Port) (i : ReqSlot) (cursor : Nat) : Port :=
  { x.defer i with readCursor := cursor, reads := x.reads ++ [(i, none)] }

/-- R179: an accepted read is answered, and with it the refusals that waited for it. -/
def Port.answerRead (x : Port) (i : ReqSlot) (st : Status) (payload : List Byte) : Port :=
  Port.answerHeld (x.reads.filter (fun r => decide (r.1 ≠ i))) (x.respond i st payload)

/-- The request is a read of the store (R179). -/
def ReqCode.isRead : ReqCode → Bool
  | .readStore => true
  | .readNext => true
  | _ => false

/-- R184: queues the response of a slot's request. -/
def State.respond (s : State) (port : PortId) (i : ReqSlot) (st : Status) (payload : List Byte) : State :=
  s.modPort port (fun x => x.respond i st payload)

/-- R5: the request is one of the position table's, whose response carries the position whatever the status. -/
def ReqCode.ofPosition (c : ReqCode) : Bool :=
  c ∈ [ReqCode.bindCall, .hold, .setHold, .unhold, .clear, .setMute, .setPosition, .queryPosition]

/-- The payload of the request in a slot. -/
def Port.payloadIn (x : Port) (i : ReqSlot) : List Byte :=
  match look x.slots i with
  | .request _ _ payload _ => payload
  | _ => []

/-- R5, R184: the payload of a refusal of the port controller: the position, where the request is one of the position table's
and its payload holds one (assumption 39). -/
def ReqCode.refusalFields (c : ReqCode) (payload : List Byte) : List Byte := if c.ofPosition then payload.take 1 else []

/-- R184, steps 2 and 3: the port controller refuses a slot's request of code `c`; a read is answered in its turn (R179). -/
def State.refuseRequest (s : State) (port : PortId) (i : ReqSlot) (c : ReqCode) (st : Status) : State :=
  if c.isRead then s.modPort port (fun x => x.refuseRead i st)
  else s.respond port i st (c.refusalFields ((s.port port).payloadIn i))

/-- R184: takes a slot's request of code `c` for its owner, which `f` stands for: `f` is given the payload. A slot that
holds no such request, or whose request may not be taken yet, changes nothing (assumption 3). -/
def State.serve (s : State) (port : PortId) (i : ReqSlot) (c : ReqCode) (f : List Byte → State → State) : State :=
  match (s.port port).admission i c with
  | .wait => s
  | .refused st => (s.modPort port (fun x => x.carryBefore i)).refuseRequest port i c st
  | .carried payload => f payload (s.modPort port (fun x => x.carryBefore i))

/-! ### Reading out (R185) -/

/-- R185: the first outbound message of a port. -/
def Port.outbound (x : Port) : List Byte :=
  match x.answered with
  | i :: _ =>
    match look x.slots i with
    | .response r => responseMessage r
    | _ => emptyMessage
  | [] =>
    match x.events with
    | q :: _ => eventMessage q
    | [] => emptyMessage

/-- R180: "A message leaves its queue when its last byte has been clocked out"; a response then frees its slot (R183). -/
def Port.takeOut (x : Port) : Port :=
  match x.answered with
  | i :: rest => { x with slots := put x.slots i .empty, answered := rest }
  | [] => { x with events := x.events.tail }

/-- R180: a read transaction of so many bytes after the kind byte; beyond the message data out carries 0x00. -/
def Port.readTransaction (x : Port) (clocks : Nat) : Port :=
  let out := fitTo clocks 0 x.outbound
  if x.outbound.length ≤ clocks then { x.takeOut with dataOut := out } else { x with dataOut := out }

end Sys2Proof.Machine
end

