-- ==== Sys2Proof/Machine/Hold.lean ====
section
/-!
DEFINITION. The hold sequencer (chapter 7): starting, changing and stopping the count of a hold, its frame boundary, and
the meanings of HOLD_START to ANNOUNCE_DUE.
-/

namespace Sys2Proof.Machine

/-- R119: the greatest hold count. -/
def holdTop : Nat := 16777215

/-- R121: the announcement interval in frames, after clamping to 5–600 s. -/
def intervalFrames (seconds : Nat) : Option Nat :=
  if seconds = 0 then none else some (max 5 (min 600 seconds) * 250)

/-- R121: the hold limit in frames. -/
def limitFramesOf (seconds : Nat) : Option Nat := if seconds = 0 then none else some (seconds * 250)

/-- R123: the place of the next announcement, one interval after `n`: "It becomes none when interval_frames is none, and
when the sum would exceed 16 777 215." -/
def oneIntervalAfter (n : Nat) (interval : Option Nat) : Option Nat :=
  match interval with
  | none => none
  | some i => if n + i ≤ holdTop then some (n + i) else none

/-- R122, steps 1 to 4: the record of a new hold. -/
def SeqRec.start (n : HoldNotice) : SeqRec :=
  { counting := true
    elapsed := 0
    nextAnnounce :=
      if !n.announceOn then none else if n.atStart then some 0 else intervalFrames n.interval
    interval := intervalFrames n.interval
    announceOn := n.announceOn
    limit := limitFramesOf n.limit
    limitReported := false
    callSerial := n.serial
    holdNumber := n.holdNumber }

/-- R123, step 3, and R122, step 5: the announcement-due notice, and the next place. -/
def seqDue (p : Pos) (s : State) : State :=
  let r := s.seq p
  (s.tell .seq (.record p) (.announceDue r.callSerial r.holdNumber r.elapsed)).modSeq p
    (fun r => { r with nextAnnounce := oneIntervalAfter r.elapsed r.interval })

/-- R122: the sequencer takes a hold-start notice. -/
def seqStart (p : Pos) (n : HoldNotice) (s : State) : State :=
  let s := s.modSeq p (fun _ => SeqRec.start n)
  if (s.seq p).nextAnnounce = some 0 then seqDue p s else s

/-- R125: the sequencer takes a hold-change notice. -/
def seqChange (p : Pos) (n : HoldNotice) (s : State) : State :=
  let r := s.seq p
  if r.counting = true ∧ r.holdNumber = n.holdNumber then
    s.modSeq p (fun r =>
      { r with
        interval := intervalFrames n.interval
        limit := limitFramesOf n.limit
        announceOn := n.announceOn
        nextAnnounce := if n.announceOn then oneIntervalAfter r.elapsed (intervalFrames n.interval) else none
        limitReported := if r.limit = limitFramesOf n.limit then r.limitReported else false })
  else s

/-- R126: the sequencer takes a stop: it stops counting where the hold_number matches. -/
def seqStop (p : Pos) (holdNumber : Byte) (s : State) : State :=
  if (s.seq p).counting = true ∧ (s.seq p).holdNumber = holdNumber then
    s.modSeq p (fun r => { r with counting := false })
  else s

/-- R126: a stop with capture "also hands hold_elapsed, as it stands when the sequencer takes the stop, back to the
record". -/
def seqCapture (p : Pos) (s : State) : State :=
  s.modPos p (fun r => { r with lastHoldFrames := (s.seq p).elapsed })

/-- The sequencer takes a notice of position `p`. -/
def seqTakes (p : Pos) (t : Tidings) (s : State) : State :=
  match t with
  | .holdStart n => seqStart p n s
  | .holdChange n => seqChange p n s
  | .holdStop h capture => if capture then seqCapture p (seqStop p h s) else seqStop p h s
  | _ => s

/-- R15, R126: the capturing stop that an UNHOLD or a return notice includes. The notices the record delivered before it
are taken first. -/
def seqStopNow (p : Pos) (s : State) : State :=
  let s := s.drain (.record p) .seq (seqTakes p)
  seqCapture p (seqStop p (s.pos p).holdNumber s)

/-! ### The frame boundary (R123) -/

/-- R123, step 1: the count, saturating. -/
def SeqRec.count (r : SeqRec) : SeqRec := { r with elapsed := satSucc holdTop r.elapsed }

/-- R123, step 2: HOLD_LIMIT is due. -/
def SeqRec.limitDue (r : SeqRec) : Bool :=
  match r.limit with
  | none => false
  | some l => !r.limitReported && decide (l ≤ r.elapsed)

/-- R123, step 2. -/
def seqLimit (p : Pos) (s : State) : State :=
  let r := s.seq p
  if r.limitDue then
    (s.raise .seq (.holdLimit p r.callSerial r.holdNumber (r.limit.getD 0) r.elapsed)).modSeq p
      (fun r => { r with limitReported := true })
  else s

/-- R123: one COUNTING record at a frame boundary. -/
def seqFrameAt (p : Pos) (s : State) : State :=
  if (s.seq p).counting then
    let s := seqLimit p (s.modSeq p SeqRec.count)
    if some (s.seq p).elapsed = (s.seq p).nextAnnounce then seqDue p s else s
  else s

/-- R119, R123: the sequencer takes its frame boundary: "it advances every COUNTING record before it takes anything else".
The records come in ascending order of their positions (assumption 43). -/
def seqFrame (s : State) : State :=
  let s := { s with bus := { s.bus with holdDue := false } }
  allPos.foldl (fun s p => seqFrameAt p s) s

/-- Record `p` meets its limit at the boundary the sequencer is to take (R123). -/
def seqMeetsLimit (p : Pos) (s : State) : Bool := (s.seq p).counting && (s.seq p).count.limitDue

/-- Record `p` meets its next announcement at the boundary the sequencer is to take (R123). -/
def seqMeetsAnnounce (p : Pos) (s : State) : Bool :=
  (s.seq p).counting && decide (some (s.seq p).count.elapsed = (s.seq p).nextAnnounce)

/-! ### Meanings -/

/-- HOLD_START (R122). -/
def execHoldStart (p : Pos) (s : State) : Host.Outcome State Fault Refusal :=
  match s.takeNotice (.record p) .seq with
  | some (.holdStart n, s') => .next (seqStart p n s')
  | _ => .next s

/-- HOLD_CHANGE (R125). -/
def execHoldChange (p : Pos) (s : State) : Host.Outcome State Fault Refusal :=
  match s.takeNotice (.record p) .seq with
  | some (.holdChange n, s') => .next (seqChange p n s')
  | _ => .next s

/-- HOLD_STOP (R126). -/
def execHoldStop (p : Pos) (s : State) : Host.Outcome State Fault Refusal :=
  match s.takeNotice (.record p) .seq with
  | some (.holdStop h capture, s') => .next (seqTakes p (.holdStop h capture) s')
  | _ => .next s

/-- HOLD_FRAME (R123). -/
def execHoldFrame (s : State) : Host.Outcome State Fault Refusal :=
  if s.bus.holdDue then .next (seqFrame s) else .next s

/-- HOLD_LIMIT (R123): the boundary at which the count of position `p` meets its limit (assumption 4). -/
def execHoldLimit (p : Pos) (s : State) : Host.Outcome State Fault Refusal :=
  if s.bus.holdDue = true ∧ seqMeetsLimit p s = true then .next (seqFrame s) else .next s

/-- ANNOUNCE_DUE (R123): the boundary at which the count of position `p` meets its next announcement (assumption 4). -/
def execAnnounceDue (p : Pos) (s : State) : Host.Outcome State Fault Refusal :=
  if s.bus.holdDue = true ∧ seqMeetsAnnounce p s = true then .next (seqFrame s) else .next s

end Sys2Proof.Machine
end

