-- ==== Sys2Proof/Machine/SlotMapOps.lean ====
section
/-!
DEFINITION. The slot map (R26, R27): claims and releases, each taken whole, and the meaning of SLOT_RELEASE.
-/

namespace Sys2Proof.Machine

/-- R8: both slots hold UNBOUND. -/
def SlotMap.bothFree (m : SlotMap) (rx tx : Timeslot) : Bool :=
  decide (look m.rx rx = .unbound) && decide (look m.tx tx = .unbound)

/-- R8: binds the receive slot as CUSTOMER(p) and the transmit slot as SEND(p). -/
def SlotMap.bindCall (m : SlotMap) (p : Pos) (rx tx : Timeslot) : SlotMap :=
  { rx := put m.rx rx (.customer p), tx := put m.tx tx (.send p) }

/-- R16, R27: returns the slots of a position to UNBOUND. -/
def SlotMap.release (m : SlotMap) (p : Pos) : SlotMap :=
  { rx := table (fun n => if look m.rx n = .customer p then .unbound else look m.rx n)
    tx := table (fun n => if look m.tx n = .send p then .unbound else look m.tx n) }

/-- R27: each slot the claim of source `c` names holds UNBOUND or a role of `c`. -/
def SlotMap.sourceMay (m : SlotMap) (c : Source) (rx tx : Option Timeslot) : Bool :=
  (match rx with
   | none => true
   | some n => decide (look m.rx n = .unbound) || decide (look m.rx n = .coach c)) &&
  (match tx with
   | none => true
   | some n => decide (look m.tx n = .unbound) || decide (look m.tx n = .monitor c))

/-- R27: the slots of source `c` not named again return to UNBOUND, and each named slot takes the role of `c`. -/
def SlotMap.bindSource (m : SlotMap) (c : Source) (rx tx : Option Timeslot) : SlotMap :=
  { rx := table (fun n =>
      if rx = some n then .coach c else if look m.rx n = .coach c then .unbound else look m.rx n)
    tx := table (fun n =>
      if tx = some n then .monitor c else if look m.tx n = .monitor c then .unbound else look m.tx n) }

/-- R16, R27: the slot map takes the release of the CLEAR in a request slot. Taking the CLEAR includes it, so that its response is
queued now, when the slots of position `p` are free (assumption 48). -/
def takeRelease (p : Pos) (port : PortId) (slot : ReqSlot) (s : State) : State :=
  { s with slotMap := s.slotMap.release p }.respond port slot .ok (out8 p)

/-- The slot map takes a notice of position `p`. -/
def slotMapTakes (p : Pos) (t : Tidings) (s : State) : State :=
  match t with
  | .slotRelease port slot => takeRelease p port slot s
  | _ => s

/-- SLOT_RELEASE (R27): the slot map takes the release of a CLEAR at position `p`. -/
def execSlotRelease (p : Pos) (s : State) : Host.Outcome State Fault Refusal :=
  match s.takeNotice (.record p) .slotMap with
  | some (.slotRelease port slot, s') => .next (takeRelease p port slot s')
  | _ => .next s

end Sys2Proof.Machine
end

