-- ==== Sys2Proof/Machine/Positions.lean ====
section
/-!
DEFINITION. The position table (chapter 1, and R103, R120, R124, R130): the changes a record makes, and the meanings of
its requests and of the notices it takes.
-/

namespace Sys2Proof.Machine

/-! ### Shared changes of a record -/

/-- R92: the fields of the record that the mixer copies. -/
def PosRec.copies (r : PosRec) : MixCopies :=
  { callState := r.callState, mute := r.mute, earLevel := r.earLevel, sendLevel := r.sendLevel,
    duckDepth := r.duckDepth, whisperEar := r.whisperEar }

/-- R84: the record hands the mixer a change of those fields. -/
def tellMixer (p : Pos) (before : MixCopies) (s : State) : State :=
  if (s.pos p).copies = before then s else s.tell (.record p) .supp (.mixState (s.pos p).copies)

/-- R6: the CALL_STATE event of a change, given the state and the record before it. -/
def raiseCallState (p : Pos) (old : CallState) (why : CallCause) (s : State) : State :=
  let r := s.pos p
  s.raise (.record p)
    (.callState p r.callSerial old r.callState (if r.callState = .held then r.holdCause else none) why
      (if old = .held ∧ r.callState = .talk then some r.lastHoldFrames else none))

/-- R122, R125: the notice of the hold settings as they stand in the record. -/
def PosRec.holdNotice (r : PosRec) : HoldNotice :=
  { serial := r.callSerial, holdNumber := r.holdNumber, announceOn := r.announcePrompt.isSome,
    interval := r.announceInterval, atStart := r.announceAtStart, limit := r.holdLimit }

/-- R131, R143: hands the player unit a subscription where there is a player to subscribe to. -/
def subscribeTo (p : Pos) (k : Option PlayerNo) (s : State) : State :=
  match k with
  | none => s
  | some k => s.tell (.record p) .player (.subscribe (s.pos p).callSerial k)

/-- R131, R143: hands the player unit an unsubscription where there is a player to leave. -/
def unsubscribeFrom (p : Pos) (k : Option PlayerNo) (s : State) : State :=
  match k with
  | none => s
  | some k => s.tell (.record p) .player (.unsubscribe (s.pos p).callSerial k)

/-- R12, R120: entry to HELD. -/
def enterHeld (p : Pos) (cause : HoldCause) (s : State) : State :=
  let before := (s.pos p).copies
  let s := s.modPos p (fun r =>
    { r with callState := .held, holdCause := some cause, holdNumber := r.holdNumber + 1 })
  let s := s.tell (.record p) .seq (.holdStart (s.pos p).holdNotice)
  tellMixer p before (subscribeTo p (s.pos p).holdPlayer s)

/-- R15, R127: an announcement that is present ends. -/
def endAnnouncement (p : Pos) (cause : EndCause) (s : State) : State :=
  match (s.pos p).announcement with
  | none => s
  | some a =>
    (s.tell (.record p) .player (.announceEnd (s.pos p).callSerial a.number cause)).modPos p
      (fun r => { r with announcement := none })

/-- R15, R21: the hold ends with its capture and the call is in TALK. -/
def resumeCall (p : Pos) (s : State) : State :=
  let before := (s.pos p).copies
  let s := endAnnouncement p .resumed (seqStopNow p s)
  let s := unsubscribeFrom p (s.pos p).holdPlayer s
  tellMixer p before (s.modPos p (fun r => { r with callState := .talk, holdCause := none }))

/-- R10: the record leaves PRECONNECT. -/
def leavePreconnect (p : Pos) (outcome : WhisperOutcome) (s : State) : State :=
  let before := (s.pos p).copies
  let old := (s.pos p).callState
  let s := unsubscribeFrom p (s.pos p).preconnectPlayer s
  let s := s.modPos p (fun r => { r with preconnectPlayer := none })
  let s :=
    if (s.pos p).agentAbsent = true ∧ (s.pos p).absenceHold = true then enterHeld p .agentAbsent s
    else tellMixer p before (s.modPos p (fun r => { r with callState := .talk }))
  raiseCallState p old (.whisperEnd outcome) s

/-- R103, R104: the record creates a whisper and hands the player unit its request. -/
def createWhisper (p : Pos) (kind : OneShot) (prompt : Nat) (s : State) : State :=
  let s := s.modPos p (fun r =>
    { r with
      whisperCounter := r.whisperCounter + 1
      whisper := some { kind := kind, prompt := prompt, number := r.whisperCounter + 1, status := .queued } })
  let r := s.pos p
  s.tell (.record p) .player
    (.whisperRequest r.callSerial r.whisperCounter kind prompt (if kind = .connect then r.connectWaitLimit else 0))

/-- R7, R11: the player of a number, if it is in 0–5 and has the role MUSIC. -/
def State.musicPlayer? (s : State) (n : Nat) : Option PlayerNo :=
  (index? 6 n).filter (fun k => decide ((s.player k).role = .music))

/-- The answer to a request of this chapter: the response carries the position (R5). -/
def answerPos (port : PortId) (slot : ReqSlot) (n : Nat) (st : Status) (more : List Byte) (s : State) : State :=
  s.respond port slot st (out8 n ++ more)

/-- R5: a request that names a position: RANGE outside 0–15. -/
def onPosition (port : PortId) (slot : ReqSlot) (n : Nat) (f : Pos → State → State) (s : State) : State :=
  match index? 16 n with
  | none => answerPos port slot n .range [] s
  | some p => f p s

/-! ### BIND_CALL (R7, R8, R9) -/

/-- R9: what an accepted BIND_CALL does to the record and its neighbours, its slots being claimed. The mixer is handed the
call-started notice before the change of call_state (assumption 45). -/
def bindCallEffect (p : Pos) (rx tx : Timeslot) (whisper : Option Nat) (preconnect : Option PlayerNo) (s : State) : State :=
  let before := (s.pos p).copies
  let s := s.modPos p (fun r => { r with callSerial := r.callSerial + 1, rxSlot := some rx, txSlot := some tx })
  let s :=
    match whisper with
    | none => s.modPos p (fun r => { r with callState := .talk })
    | some w =>
      let s := s.modPos p (fun r => { r with callState := .preconnect, preconnectPlayer := preconnect })
      subscribeTo p preconnect (createWhisper p .connect w s)
  let r := s.pos p
  let started := Tidings.callStarted r.callSerial r.absenceGrace
  let s := s.tell (.record p) .echo started
  let s := s.tell (.record p) .supp started
  let s := s.tell (.record p) .coach started
  let s := s.tell (.record p) (.link p) started
  raiseCallState p .idle .request (tellMixer p before s)

/-- R8: the claim and, if it succeeds, the call. -/
def bindCallClaim (port : PortId) (slot : ReqSlot) (p : Pos) (rx tx : Timeslot) (whisper : Option Nat)
    (preconnect : Option PlayerNo) (s : State) : State :=
  let s := s.drain (.record p) .slotMap (slotMapTakes p)
  if s.slotMap.bothFree rx tx then
    let s := bindCallEffect p rx tx whisper preconnect { s with slotMap := s.slotMap.bindCall p rx tx }
    answerPos port slot p .ok (outCallState (s.pos p).callState ++ [(s.pos p).callSerial]) s
  else answerPos port slot p .slotInUse [] s

/-- R7, fifth check: a preconnect_player given with a whisper_prompt; without one it is ignored. -/
def preconnectChecked (whisper preconnect : Option Nat) (s : State) : Option (Option PlayerNo) :=
  match whisper with
  | none => some none
  | some _ => optWith (fun n => s.musicPlayer? n) preconnect

/-- R7: the checks of BIND_CALL in their order. -/
def bindCall (port : PortId) (slot : ReqSlot) (a : BindCallArgs) (s : State) : State :=
  onPosition port slot a.position (fun p s =>
    if (s.pos p).callState ≠ .idle then answerPos port slot p .state [] s
    else
      match index? 32 a.rxSlot, index? 32 a.txSlot with
      | some rx, some tx =>
        if a.whisperPrompt.all s.promptValid then
          match preconnectChecked a.whisperPrompt a.preconnectPlayer s with
          | some m => bindCallClaim port slot p rx tx a.whisperPrompt m s
          | none => answerPos port slot p .range [] s
        else answerPos port slot p .noPrompt [] s
      | _, _ => answerPos port slot p .range [] s) s

/-! ### HOLD, SET_HOLD (R11, R12, R13) -/

/-- R11: the checks after those of the position and the call state: the status of the first that fails, or the hold
settings. -/
def holdChecked (a : HoldArgs) (s : State) : Except Status (Option PlayerNo × Bool) :=
  match optWith (fun n => s.musicPlayer? n) a.holdPlayer, onOff? a.announceAtStart with
  | some k, some start =>
    if a.holdLimit = 0 ∨ (10 ≤ a.holdLimit ∧ a.holdLimit ≤ 7200) then
      if a.announcePrompt.all s.promptValid then .ok (k, start) else .error .noPrompt
    else .error .range
  | _, _ => .error .range

/-- R11: the hold settings of the record. -/
def writeHold (p : Pos) (a : HoldArgs) (k : Option PlayerNo) (start : Bool) (s : State) : State :=
  s.modPos p (fun r =>
    { r with holdPlayer := k, announcePrompt := a.announcePrompt, announceInterval := a.announceInterval,
             announceAtStart := start, holdLimit := a.holdLimit })

/-- R13: a HOLD or SET_HOLD taken in HELD, its settings being written; `old` is the hold_player before. -/
def changeHold (p : Pos) (old : Option PlayerNo) (s : State) : State :=
  let new := (s.pos p).holdPlayer
  let s := if old = new then s else subscribeTo p new (unsubscribeFrom p old s)
  s.tell (.record p) .seq (.holdChange (s.pos p).holdNotice)

/-- R12, R13: an accepted HOLD. -/
def holdEffect (p : Pos) (a : HoldArgs) (k : Option PlayerNo) (start : Bool) (s : State) : State :=
  let r := s.pos p
  let s := writeHold p a k start s
  if r.callState = .talk then raiseCallState p .talk .request (enterHeld p .command s)
  else
    let s := changeHold p r.holdPlayer (s.modPos p (fun r => { r with holdCause := some .command }))
    if r.holdCause = some .command then s else raiseCallState p .held .request s

/-- HOLD: R11's checks and R12's or R13's effect. -/
def hold (port : PortId) (slot : ReqSlot) (a : HoldArgs) (s : State) : State :=
  onPosition port slot a.position (fun p s =>
    if (s.pos p).callState = .talk ∨ (s.pos p).callState = .held then
      match holdChecked a s with
      | .ok (k, start) => answerPos port slot p .ok [] (holdEffect p a k start s)
      | .error st => answerPos port slot p st [] s
    else answerPos port slot p .state [] s) s

/-- SET_HOLD: R11's checks and R13's effect in HELD. -/
def setHold (port : PortId) (slot : ReqSlot) (a : HoldArgs) (s : State) : State :=
  onPosition port slot a.position (fun p s =>
    match holdChecked a s with
    | .ok (k, start) =>
      let r := s.pos p
      let s := writeHold p a k start s
      answerPos port slot p .ok [] (if r.callState = .held then changeHold p r.holdPlayer s else s)
    | .error st => answerPos port slot p st [] s) s

/-! ### UNHOLD, CLEAR, SET_MUTE (R15, R16, R18) -/

/-- UNHOLD (R15). -/
def unhold (port : PortId) (slot : ReqSlot) (n : Nat) (s : State) : State :=
  onPosition port slot n (fun p s =>
    if (s.pos p).callState = .held then
      let s := resumeCall p s
      answerPos port slot p .ok (out24 (s.pos p).lastHoldFrames) (raiseCallState p .held .request s)
    else answerPos port slot p .state [] s) s

/-- R16: the releases of the CLEAR in a request slot, each on its way to its owner. The player unit is handed the end of the
announcement before the release (assumption 49). -/
def clearReleases (port : PortId) (slot : ReqSlot) (p : Pos) (s : State) : State :=
  let held := (s.pos p).callState = .held
  let s := s.tell (.record p) .slotMap (.slotRelease port slot)
  let s := s.tell (.record p) .echo .callEnded
  let s := s.tell (.record p) .coach .callEnded
  let s := if held then s.tell (.record p) .seq (.holdStop (s.pos p).holdNumber false) else s
  let s := endAnnouncement p .cleared s
  let s := s.tell (.record p) .player .clearRelease
  let s := s.tell (.record p) (.link p) .callEnded
  s.tell (.record p) .supp .callEnded

/-- R16: the record after a CLEAR. -/
def PosRec.cleared (r : PosRec) : PosRec :=
  { r with callState := .idle, holdCause := none, rxSlot := none, txSlot := none, preconnectPlayer := none,
           whisper := none, announcement := none, coach := none, agentAbsent := false }

/-- R16: an accepted CLEAR. The mixer is handed the call-ended notice before the change of call_state (assumption 45). -/
def clearEffect (port : PortId) (slot : ReqSlot) (p : Pos) (s : State) : State :=
  let before := (s.pos p).copies
  let old := (s.pos p).callState
  raiseCallState p old .request (tellMixer p before ((clearReleases port slot p s).modPos p PosRec.cleared))

/-- CLEAR (R16). The request keeps its slot until the slot map has taken its release (assumption 48). -/
def clear (port : PortId) (slot : ReqSlot) (n : Nat) (s : State) : State :=
  onPosition port slot n (fun p s =>
    if (s.pos p).callState = .idle then answerPos port slot p .state [] s
    else (clearEffect port slot p s).modPort port (fun x => x.defer slot)) s

/-- R18: mute takes a value; a change is reported with its source. -/
def writeMute (p : Pos) (on : Bool) (source : MuteSource) (s : State) : State :=
  if (s.pos p).mute = on then s
  else
    let before := (s.pos p).copies
    (tellMixer p before (s.modPos p (fun r => { r with mute := on }))).raise (.record p) (.muteChanged p on source)

/-- SET_MUTE (R18). -/
def setMute (port : PortId) (slot : ReqSlot) (a : Nat × Nat) (s : State) : State :=
  onPosition port slot a.1 (fun p s =>
    match onOff? a.2 with
    | none => answerPos port slot p .range [] s
    | some on => answerPos port slot p .ok [] (writeMute p on .request s)) s

/-! ### SET_POSITION (R22, R23) -/

/-- The fields of SET_POSITION held against the ranges of R1. -/
structure PosSettings where
  earLevel : Option Nat
  sendLevel : Option Nat
  duckDepth : Option Nat
  whisperEar : Option Ear
  absenceGrace : Option Nat
  absenceHold : Option Bool
  autoResume : Option Bool
  whisperLimit : Option Nat
  connectWaitLimit : Option Nat
  deriving DecidableEq, Repr

/-- R22: each field that is carried lies in the range given in R1. -/
def SetPositionArgs.checked (a : SetPositionArgs) : Option PosSettings := do
  let ear ← optWith (within 0 65535) a.earLevel
  let send ← optWith (within 0 65535) a.sendLevel
  let duck ← optWith (within 0 65535) a.duckDepth
  let wear ← optWith ear? a.whisperEar
  let grace ← optWith (within 0 5000) a.absenceGrace
  let hold ← optWith onOff? a.absenceHold
  let resume ← optWith onOff? a.autoResume
  let limit ← optWith (within 1 60) a.whisperLimit
  let wait ← optWith (within 0 10) a.connectWaitLimit
  some ⟨ear, send, duck, wear, grace, hold, resume, limit, wait⟩

/-- R22: "An accepted request writes every field it carries." -/
def PosSettings.write (a : PosSettings) (r : PosRec) : PosRec :=
  { r with
    earLevel := a.earLevel.getD r.earLevel
    sendLevel := a.sendLevel.getD r.sendLevel
    duckDepth := a.duckDepth.getD r.duckDepth
    whisperEar := a.whisperEar.getD r.whisperEar
    absenceGrace := a.absenceGrace.getD r.absenceGrace
    absenceHold := a.absenceHold.getD r.absenceHold
    autoResume := a.autoResume.getD r.autoResume
    whisperLimit := a.whisperLimit.getD r.whisperLimit
    connectWaitLimit := a.connectWaitLimit.getD r.connectWaitLimit }

/-- R22: the values of all nine fields. -/
def PosRec.nineFields (r : PosRec) : List Byte :=
  out16 r.earLevel ++ out16 r.sendLevel ++ out16 r.duckDepth ++ outEar r.whisperEar ++ out16 r.absenceGrace
    ++ outBool r.absenceHold ++ outBool r.autoResume ++ out8 r.whisperLimit ++ out8 r.connectWaitLimit

/-- R55, R104: the notices that go with absence_grace and whisper_limit. -/
def settingNotices (p : Pos) (a : PosSettings) (s : State) : State :=
  let s := match a.absenceGrace with
    | none => s
    | some g => s.tell (.record p) (.link p) (.absenceGrace g)
  match a.whisperLimit with
  | none => s
  | some n => s.tell (.record p) .player (.whisperLimit n)

/-- SET_POSITION (R22, R23). -/
def setPosition (port : PortId) (slot : ReqSlot) (a : SetPositionArgs) (s : State) : State :=
  onPosition port slot a.position (fun p s =>
    match a.checked with
    | none => answerPos port slot p .range [] s
    | some v =>
      let before := (s.pos p).copies
      let s := settingNotices p v (tellMixer p before (s.modPos p v.write))
      answerPos port slot p .ok (s.pos p).nineFields s) s

/-! ### WHISPER, CANCEL_WHISPER (R107, R109) -/

/-- WHISPER (R107). -/
def whisper (port : PortId) (slot : ReqSlot) (a : Nat × Nat) (s : State) : State :=
  match index? 16 a.1 with
  | none => s.respond port slot .range []
  | some p =>
    if (s.pos p).callState = .talk ∨ (s.pos p).callState = .held then
      if (s.pos p).whisper.isSome then s.respond port slot .busy []
      else if s.promptValid a.2 then
        let s := createWhisper p .recorded a.2 s
        s.respond port slot .ok [(s.pos p).whisperCounter]
      else s.respond port slot .noPrompt []
    else s.respond port slot .state []

/-- R109: the record takes an accepted CANCEL_WHISPER for the whisper `w`. -/
def cancelEffect (p : Pos) (w : Whisper) (s : State) : State :=
  let s := s.modPos p (fun r => { r with whisper := none })
  let s := s.tell (.record p) .player (.whisperCancel (s.pos p).callSerial w.number w.kind)
  if w.kind = .connect then leavePreconnect p .cancelled s else s

/-- CANCEL_WHISPER (R109). -/
def cancelWhisper (port : PortId) (slot : ReqSlot) (n : Nat) (s : State) : State :=
  match index? 16 n with
  | none => s.respond port slot .range []
  | some p =>
    match (s.pos p).whisper with
    | none => s.respond port slot .state []
    | some w => (cancelEffect p w s).respond port slot .ok []

/-! ### QUERY_POSITION (R24, R81, R133) -/

/-- R24: the whisper as a query reports it. -/
def outWhisper (w : Whisper) : List Byte := outOneShot w.kind ++ out8 w.prompt ++ [w.number] ++ outShotStatus w.status

/-- R24: the announcement as a query reports it. -/
def outAnnouncement (a : Announcement) : List Byte := out8 a.prompt ++ [a.number] ++ outShotStatus a.status

/-- R1, R24: every field of the record, in the order of R1 (assumption 13). -/
def PosRec.fields (r : PosRec) : List Byte :=
  outCallState r.callState ++ outOpt outHoldCause r.holdCause ++ [r.callSerial] ++ outOpt outFin r.rxSlot
    ++ outOpt outFin r.txSlot ++ outOpt outFin r.preconnectPlayer ++ outOpt outFin r.holdPlayer
    ++ outOpt out8 r.announcePrompt ++ out16 r.announceInterval ++ outBool r.announceAtStart ++ out16 r.holdLimit
    ++ outBool r.mute ++ outBool r.agentAbsent ++ outOpt outWhisper r.whisper
    ++ outOpt outAnnouncement r.announcement ++ outOpt outFin r.coach ++ r.nineFields ++ out24 r.lastHoldFrames

/-- R133: the sequencer's part. -/
def SeqRec.fields (r : SeqRec) : List Byte :=
  outBool r.counting ++ out24 r.elapsed ++ outOpt out24 r.nextAnnounce ++ outOpt out24 r.interval
    ++ outOpt out24 r.limit ++ outBool r.limitReported ++ [r.holdNumber]

/-- R81: a canceller's part. -/
def CancRec.queryFields (r : CancRec) : List Byte :=
  outCancMode r.mode ++ out8 r.requested ++ out8 r.blocks.length ++ out8 r.erle

/-- R24: the answer of a query of position `p`. -/
def positionReport (p : Pos) (s : State) : List Byte :=
  (s.pos p).fields ++ (s.seq p).fields ++ outLinkState (s.link p).linkState ++ out8 (s.link p).lanes
    ++ (s.canc ⟨p, .line⟩).queryFields ++ (s.canc ⟨p, .acoustic⟩).queryFields
    ++ outOpt outCoachMode ((s.pos p).coach.map (fun c => (s.source c).mode))

/-- QUERY_POSITION (R24): every owner is read at once, and no notice on its way is taken first (assumption 41). -/
def queryPosition (port : PortId) (slot : ReqSlot) (n : Nat) (s : State) : State :=
  onPosition port slot n (fun p s => answerPos port slot p .ok (positionReport p s) s) s

/-! ### Meanings of the requests -/

/-- BIND_CALL (R7, R8, R9). -/
def execBindCall (port : PortId) (slot : ReqSlot) (s : State) : Host.Outcome State Fault Refusal :=
  .next (s.serve port slot .bindCall (fun b s =>
    match parseBindCall b with
    | some a => bindCall port slot a s
    | none => s.respond port slot .range []))

/-- HOLD (R11, R12, R13). -/
def execHold (port : PortId) (slot : ReqSlot) (s : State) : Host.Outcome State Fault Refusal :=
  .next (s.serve port slot .hold (fun b s =>
    match parseHold b with
    | some a => hold port slot a s
    | none => s.respond port slot .range []))

/-- SET_HOLD (R11, R13). -/
def execSetHold (port : PortId) (slot : ReqSlot) (s : State) : Host.Outcome State Fault Refusal :=
  .next (s.serve port slot .setHold (fun b s =>
    match parseHold b with
    | some a => setHold port slot a s
    | none => s.respond port slot .range []))

/-- A request of one field of one byte, served by `f`. -/
def serveOne (port : PortId) (slot : ReqSlot) (c : ReqCode) (f : Nat → State → State) (s : State) : State :=
  s.serve port slot c (fun b s =>
    match parseOne b with
    | some n => f n s
    | none => s.respond port slot .range [])

/-- A request of two fields of one byte, served by `f`. -/
def serveTwo (port : PortId) (slot : ReqSlot) (c : ReqCode) (f : Nat × Nat → State → State) (s : State) : State :=
  s.serve port slot c (fun b s =>
    match parseTwo b with
    | some a => f a s
    | none => s.respond port slot .range [])

/-- UNHOLD (R15). -/
def execUnhold (port : PortId) (slot : ReqSlot) (s : State) : Host.Outcome State Fault Refusal :=
  .next (serveOne port slot .unhold (unhold port slot) s)

/-- CLEAR (R16). -/
def execClear (port : PortId) (slot : ReqSlot) (s : State) : Host.Outcome State Fault Refusal :=
  .next (serveOne port slot .clear (clear port slot) s)

/-- SET_MUTE (R18). -/
def execSetMute (port : PortId) (slot : ReqSlot) (s : State) : Host.Outcome State Fault Refusal :=
  .next (serveTwo port slot .setMute (setMute port slot) s)

/-- SET_POSITION (R22). -/
def execSetPosition (port : PortId) (slot : ReqSlot) (s : State) : Host.Outcome State Fault Refusal :=
  .next (s.serve port slot .setPosition (fun b s =>
    match parseSetPosition b with
    | some a => setPosition port slot a s
    | none => s.respond port slot .range []))

/-- WHISPER (R107). -/
def execWhisper (port : PortId) (slot : ReqSlot) (s : State) : Host.Outcome State Fault Refusal :=
  .next (serveTwo port slot .whisper (whisper port slot) s)

/-- CANCEL_WHISPER (R109). -/
def execCancelWhisper (port : PortId) (slot : ReqSlot) (s : State) : Host.Outcome State Fault Refusal :=
  .next (serveOne port slot .cancelWhisper (cancelWhisper port slot) s)

/-- QUERY_POSITION (R24). -/
def execQueryPosition (port : PortId) (slot : ReqSlot) (s : State) : Host.Outcome State Fault Refusal :=
  .next (serveOne port slot .queryPosition (queryPosition port slot) s)

/-! ### Notices the record takes -/

/-- R4: the record takes a notice about a call: it is not IDLE and its call_serial is the notice's. -/
def PosRec.current (r : PosRec) (serial : Byte) : Bool := decide (r.callState ≠ .idle ∧ r.callSerial = serial)

/-- R103: the record's whisper is the one a notice concerns. -/
def PosRec.whisperIs (r : PosRec) (serial number : Byte) : Bool :=
  r.current serial && r.whisper.any (fun w => decide (w.number = number))

/-- R130: the record's announcement is the one a notice concerns. -/
def PosRec.announcementIs (r : PosRec) (serial number : Byte) : Bool :=
  r.current serial && r.announcement.any (fun a => decide (a.number = number))

/-- R20: an absence expiry that R4 does not discard, agent_absent being clear. -/
def absenceEffect (p : Pos) (s : State) : State :=
  let r := s.pos p
  let s := s.modPos p (fun r => { r with agentAbsent := true })
  match r.callState, r.absenceHold with
  | .preconnect, true => s.raise (.record p) (.agentAbsent p r.callSerial .deferred)
  | .talk, true =>
    raiseCallState p .talk .absence
      ((enterHeld p .agentAbsent s).raise (.record p) (.agentAbsent p r.callSerial .held))
  | _, _ => s.raise (.record p) (.agentAbsent p r.callSerial .none)

/-- R20: the record takes an absence expiry notice. -/
def takeExpiry (p : Pos) (serial : Byte) (s : State) : State :=
  if (s.pos p).current serial = true ∧ (s.pos p).agentAbsent = false then absenceEffect p s else s

/-- R21: the call resumes at the agent's return. -/
def PosRec.resumes (r : PosRec) : Bool :=
  decide (r.callState = .held ∧ r.holdCause = some .agentAbsent ∧ r.autoResume = true)

/-- R21: a return that R4 does not discard, agent_absent being set. -/
def returnEffect (p : Pos) (s : State) : State :=
  let r := s.pos p
  let s := s.modPos p (fun r => { r with agentAbsent := false })
  if r.resumes then
    raiseCallState p .held .linkReturn
      ((resumeCall p s).raise (.record p) (.agentReturned p r.callSerial true))
  else s.raise (.record p) (.agentReturned p r.callSerial false)

/-- R21: the record takes a return notice. -/
def takeReturn (p : Pos) (serial : Byte) (s : State) : State :=
  if (s.pos p).current serial = true ∧ (s.pos p).agentAbsent = true then returnEffect p s else s

/-- R103: the record takes a GRANTED notice of its whisper. -/
def takeWhisperGranted (p : Pos) (serial number : Byte) (k : PlayerNo) (s : State) : State :=
  if (s.pos p).whisperIs serial number then
    s.modPos p (fun r => { r with whisper := r.whisper.map (fun w => { w with status := .assigned k }) })
  else s

/-- R10, R103: the record takes an end notice of its whisper. -/
def takeWhisperOver (p : Pos) (serial number : Byte) (outcome : WhisperOutcome) (s : State) : State :=
  if (s.pos p).whisperIs serial number then
    let connect := (s.pos p).whisper.any (fun w => decide (w.kind = .connect))
    let s := s.modPos p (fun r => { r with whisper := none })
    if connect = true ∧ (s.pos p).callState = .preconnect then leavePreconnect p outcome s else s
  else s

/-- R130: the record takes a GRANTED notice of its announcement. -/
def takeAnnounceGranted (p : Pos) (serial number : Byte) (k : PlayerNo) (s : State) : State :=
  if (s.pos p).announcementIs serial number then
    s.modPos p (fun r => { r with announcement := r.announcement.map (fun a => { a with status := .assigned k }) })
  else s

/-- R130: the record takes an ENDED or SKIPPED notice of its announcement. -/
def takeAnnounceOver (p : Pos) (serial number : Byte) (s : State) : State :=
  if (s.pos p).announcementIs serial number then s.modPos p (fun r => { r with announcement := none }) else s

/-- R14: the record takes the refusal of a subscription. -/
def takeRefusal (p : Pos) (serial : Byte) (k : PlayerNo) (s : State) : State :=
  if (s.pos p).current serial then
    s.modPos p (fun r =>
      { r with
        holdPlayer := if r.holdPlayer = some k then none else r.holdPlayer
        preconnectPlayer := if r.preconnectPlayer = some k then none else r.preconnectPlayer })
  else s

/-- R120, R124: the record creates an announcement and hands the player unit its request. -/
def createAnnouncement (p : Pos) (prompt : Nat) (s : State) : State :=
  let s := s.modPos p (fun r =>
    { r with
      announceCounter := r.announceCounter + 1
      announcement := some { prompt := prompt, number := r.announceCounter + 1, status := .queued } })
  s.tell (.record p) .player (.announceRequest (s.pos p).callSerial (s.pos p).announceCounter prompt)

/-- R124: the record skips an announcement that is due. -/
def skipAnnouncement (p : Pos) (cause : SkipCause) (elapsed : Nat) (s : State) : State :=
  s.raise (.record p)
    (.announceSkipped p (s.pos p).callSerial (s.pos p).announcePrompt cause (some elapsed))

/-- R124: the record takes an announcement-due notice. -/
def takeDue (p : Pos) (serial holdNumber : Byte) (elapsed : Nat) (s : State) : State :=
  let r := s.pos p
  if r.current serial = true ∧ r.callState = .held ∧ r.holdNumber = holdNumber then
    if r.announcement.isSome then skipAnnouncement p .busy elapsed s
    else
      match r.announcePrompt with
      | none => skipAnnouncement p .noPrompt elapsed s
      | some a => if s.promptValid a then createAnnouncement p a s else skipAnnouncement p .noPrompt elapsed s
  else s

/-- R113: the record takes an attach claim of source `c`. -/
def takeClaim (p : Pos) (c : Source) (s : State) : State :=
  if (s.pos p).callState = .idle then s.tell (.record p) .coach (.attachRefusal c .state)
  else if (s.pos p).coach.isSome then s.tell (.record p) .coach (.attachRefusal c .inUse)
  else (s.modPos p (fun r => { r with coach := some c })).tell (.record p) .coach (.attachAccept c)

/-- R114: the record takes a detach notice. -/
def takeDetach (p : Pos) (c : Source) (serial : Byte) (s : State) : State :=
  if (s.pos p).callSerial = serial ∧ (s.pos p).coach = some c then s.modPos p (fun r => { r with coach := none })
  else s

/-- ABSENCE_EXPIRY (R20). -/
def execAbsenceExpiry (p : Pos) (s : State) : Host.Outcome State Fault Refusal :=
  match s.takeNotice (.link p) (.record p) with
  | some (.absenceExpiry serial, s') => .next (takeExpiry p serial s')
  | _ => .next s

/-- RETURN_NOTICE (R21). -/
def execReturnNotice (p : Pos) (s : State) : Host.Outcome State Fault Refusal :=
  match s.takeNotice (.link p) (.record p) with
  | some (.linkReturn serial, s') => .next (takeReturn p serial s')
  | _ => .next s

/-- MUTE_BUTTON_EDGE (R18). -/
def execMuteButtonEdge (p : Pos) (s : State) : Host.Outcome State Fault Refusal :=
  match s.takeNotice (.link p) (.record p) with
  | some (.muteEdge, s') => .next (writeMute p (!(s'.pos p).mute) .button s')
  | _ => .next s

/-- WHISPER_GRANTED_NOTICE (R103). -/
def execWhisperGrantedNotice (p : Pos) (s : State) : Host.Outcome State Fault Refusal :=
  match s.takeNotice .player (.record p) with
  | some (.whisperGranted serial number k, s') => .next (takeWhisperGranted p serial number k s')
  | _ => .next s

/-- WHISPER_END_NOTICE (R10, R103). -/
def execWhisperEndNotice (p : Pos) (s : State) : Host.Outcome State Fault Refusal :=
  match s.takeNotice .player (.record p) with
  | some (.whisperOver serial number outcome, s') => .next (takeWhisperOver p serial number outcome s')
  | _ => .next s

/-- ANNOUNCE_GRANTED_NOTICE (R130). -/
def execAnnounceGrantedNotice (p : Pos) (s : State) : Host.Outcome State Fault Refusal :=
  match s.takeNotice .player (.record p) with
  | some (.announceGranted serial number k, s') => .next (takeAnnounceGranted p serial number k s')
  | _ => .next s

/-- ANNOUNCE_END_NOTICE (R130). -/
def execAnnounceEndNotice (p : Pos) (s : State) : Host.Outcome State Fault Refusal :=
  match s.takeNotice .player (.record p) with
  | some (.announceOver serial number, s') => .next (takeAnnounceOver p serial number s')
  | _ => .next s

/-- SUBSCRIPTION_REFUSED (R14). -/
def execSubscriptionRefused (p : Pos) (s : State) : Host.Outcome State Fault Refusal :=
  match s.takeNotice .player (.record p) with
  | some (.subscriptionRefused serial k, s') => .next (takeRefusal p serial k s')
  | _ => .next s

/-- ANNOUNCE_DUE_NOTICE (R124). -/
def execAnnounceDueNotice (p : Pos) (s : State) : Host.Outcome State Fault Refusal :=
  match s.takeNotice .seq (.record p) with
  | some (.announceDue serial holdNumber elapsed, s') => .next (takeDue p serial holdNumber elapsed s')
  | _ => .next s

/-- ATTACH_CLAIM (R113). -/
def execAttachClaim (p : Pos) (s : State) : Host.Outcome State Fault Refusal :=
  match s.takeNotice .coach (.record p) with
  | some (.attachClaim c, s') => .next (takeClaim p c s')
  | _ => .next s

/-- DETACH_NOTICE (R114). -/
def execDetachNotice (p : Pos) (s : State) : Host.Outcome State Fault Refusal :=
  match s.takeNotice .coach (.record p) with
  | some (.detach c serial, s') => .next (takeDetach p c serial s')
  | _ => .next s

end Sys2Proof.Machine
end

