-- ==== Sys2Proof/Machine/Coach.lean ====
section
/-!
DEFINITION. The coach unit (sections 6.4 and 6.5): the coach sources, their attachment, voice detection, and the meanings
of SET_COACH_SOURCE to DETACH_COACH and of ATTACH_ACCEPT to COACH_FRAME.
-/

namespace Sys2Proof.Machine

/-- A request that names a coach source: RANGE outside 0–3. -/
def onSource (port : PortId) (slot : ReqSlot) (n : Nat) (f : Source → State → State) (s : State) : State :=
  match index? 4 n with
  | none => s.respond port slot .range []
  | some c => f c s

/-- R112: the claim, and what the record takes from it. -/
def coachClaim (port : PortId) (slot : ReqSlot) (c : Source) (rx tx : Option Timeslot) (s : State) : State :=
  if s.slotMap.sourceMay c rx tx then
    let s := { s with slotMap := s.slotMap.bindSource c rx tx }
    let s := s.modSource c (fun r => { r with rxSlot := rx, txSlot := tx })
    s.respond port slot .ok (outOpt outFin rx ++ outOpt outFin tx)
  else s.respond port slot .slotInUse []

/-- SET_COACH_SOURCE (R112). -/
def setCoachSource (port : PortId) (slot : ReqSlot) (a : SetCoachSourceArgs) (s : State) : State :=
  onSource port slot a.source (fun c s =>
    match optWith (fun n => index? 32 n) a.rxSlot, optWith (fun n => index? 32 n) a.txSlot with
    | some rx, some tx =>
      if (s.source c).attachment = .unattached then coachClaim port slot c rx tx s else s.respond port slot .inUse []
    | _, _ => s.respond port slot .range []) s

/-- R113: the coach unit's part of an ATTACH_COACH whose own checks pass: the request keeps its slot until the record has
answered. -/
def attachEffect (port : PortId) (slot : ReqSlot) (c : Source) (p : Pos) (m : CoachMode) (s : State) : State :=
  let s := s.modSource c (fun r =>
    { r with attachment := .pending, position := some p, attaching := some { port := port, slot := slot, mode := m } })
  (s.tell .coach (.record p) (.attachClaim c)).modPort port (fun x => x.defer slot)

/-- ATTACH_COACH (R113): the coach unit's checks. -/
def attachCoach (port : PortId) (slot : ReqSlot) (a : Nat × Nat × Nat) (s : State) : State :=
  match index? 4 a.1, index? 16 a.2.1, coachMode? a.2.2 with
  | some c, some p, some m =>
    if (s.source c).attachment ≠ .unattached then s.respond port slot .inUse []
    else if (s.source c).rxSlot.isSome || (s.source c).txSlot.isSome then attachEffect port slot c p m s
    else s.respond port slot .range []
  | _, _, _ => s.respond port slot .range []

/-- R113: the coach unit takes the record's accept. -/
def takeAccept (p : Pos) (c : Source) (s : State) : State :=
  match (s.source c).attaching with
  | none => s
  | some a =>
    let serial := look s.coach.serials p
    let s := s.modSource c (fun r =>
      { r with attachment := .attached, position := some p, callSerial := serial, mode := a.mode,
               voiceActive := false, voiceHangover := 0, attaching := none })
    (s.raise .coach (.coachAttached c p serial a.mode)).respond a.port a.slot .ok
      (outFin c ++ outFin p ++ [serial] ++ outCoachMode a.mode)

/-- R113: the coach unit takes the record's refusal. -/
def takeAttachRefusal (c : Source) (st : Status) (s : State) : State :=
  match (s.source c).attaching with
  | none => s
  | some a =>
    (s.modSource c (fun r => { r with attachment := .unattached, position := none, attaching := none })).respond
      a.port a.slot st []

/-- R114: a source leaves ATTACHED. -/
def detachSource (c : Source) (p : Pos) (cause : DetachCause) (s : State) : State :=
  (s.modSource c (fun r => { r with attachment := .unattached, position := none })).raise .coach
    (.coachDetached c p (s.source c).callSerial cause)

/-- R114: an accepted DETACH_COACH. -/
def detachEffect (c : Source) (p : Pos) (s : State) : State :=
  detachSource c p .request (s.tell .coach (.record p) (.detach c (s.source c).callSerial))

/-- DETACH_COACH (R114). -/
def detachCoach (port : PortId) (slot : ReqSlot) (n : Nat) (s : State) : State :=
  onSource port slot n (fun c s =>
    match (s.source c).attachment, (s.source c).position with
    | .attached, some p => (detachEffect c p s).respond port slot .ok []
    | .pending, _ => s.respond port slot .busy []
    | _, _ => s.respond port slot .state []) s

/-- R115: COACH_MODE_CHANGED, where a source is ATTACHED and its mode has changed from `old`. -/
def reportMode (c : Source) (old : CoachMode) (s : State) : State :=
  let r := s.source c
  match r.attachment, r.position with
  | .attached, some p =>
    if old = r.mode then s else s.raise .coach (.coachModeChanged c p r.callSerial old r.mode)
  | _, _ => s

/-- R115: an accepted SET_COACH_MODE. -/
def coachModeEffect (c : Source) (m : Option CoachMode) (l : Option Nat) (s : State) : State :=
  reportMode c (s.source c).mode (s.modSource c (fun r => { r with mode := m.getD r.mode, level := l.getD r.level }))

/-- R115: the whole source record. -/
def CoachRec.report (r : CoachRec) : List Byte :=
  outOpt outFin r.rxSlot ++ outOpt outFin r.txSlot ++ outAttachment r.attachment ++ outOpt outFin r.position
    ++ outCoachMode r.mode ++ out16 r.level ++ outBool r.voiceActive

/-- SET_COACH_MODE (R115). -/
def setCoachMode (port : PortId) (slot : ReqSlot) (a : Nat × Option Nat × Option Nat) (s : State) : State :=
  onSource port slot a.1 (fun c s =>
    match optWith coachMode? a.2.1, optWith (within 0 65535) a.2.2 with
    | some m, some l =>
      let s := coachModeEffect c m l s
      s.respond port slot .ok (s.source c).report
    | _, _ => s.respond port slot .range []) s

/-- SET_COACH_SOURCE (R112). -/
def execSetCoachSource (port : PortId) (slot : ReqSlot) (s : State) : Host.Outcome State Fault Refusal :=
  .next (s.serve port slot .setCoachSource (fun b s =>
    match parseSetCoachSource b with
    | some a => setCoachSource port slot a s
    | none => s.respond port slot .range []))

/-- ATTACH_COACH (R113). -/
def execAttachCoach (port : PortId) (slot : ReqSlot) (s : State) : Host.Outcome State Fault Refusal :=
  .next (s.serve port slot .attachCoach (fun b s =>
    match parseAttachCoach b with
    | some a => attachCoach port slot a s
    | none => s.respond port slot .range []))

/-- SET_COACH_MODE (R115). -/
def execSetCoachMode (port : PortId) (slot : ReqSlot) (s : State) : Host.Outcome State Fault Refusal :=
  .next (s.serve port slot .setCoachMode (fun b s =>
    match parseSetCoachMode b with
    | some a => setCoachMode port slot a s
    | none => s.respond port slot .range []))

/-- DETACH_COACH (R114). -/
def execDetachCoach (port : PortId) (slot : ReqSlot) (s : State) : Host.Outcome State Fault Refusal :=
  .next (serveOne port slot .detachCoach (detachCoach port slot) s)

/-- ATTACH_ACCEPT (R113). -/
def execAttachAccept (p : Pos) (s : State) : Host.Outcome State Fault Refusal :=
  match s.takeNotice (.record p) .coach with
  | some (.attachAccept c, s') => .next (takeAccept p c s')
  | _ => .next s

/-- ATTACH_REFUSAL (R113). -/
def execAttachRefusal (p : Pos) (s : State) : Host.Outcome State Fault Refusal :=
  match s.takeNotice (.record p) .coach with
  | some (.attachRefusal c st, s') => .next (takeAttachRefusal c st s')
  | _ => .next s

/-- COACH_CALL_STARTED (R111). -/
def execCoachCallStarted (p : Pos) (s : State) : Host.Outcome State Fault Refusal :=
  match s.takeNotice (.record p) .coach with
  | some (.callStarted serial _, s') =>
    .next { s' with coach := { s'.coach with serials := put s'.coach.serials p serial } }
  | _ => .next s

/-- R114: each source ATTACHED to the position is detached by its CLEAR. -/
def coachCallEnds (p : Pos) (s : State) : State :=
  allSources.foldl (fun s c =>
    if (s.source c).attachment = .attached ∧ (s.source c).position = some p then detachSource c p .cleared s else s) s

/-- COACH_CALL_ENDED (R114). -/
def execCoachCallEnded (p : Pos) (s : State) : Host.Outcome State Fault Refusal :=
  match s.takeNotice (.record p) .coach with
  | some (.callEnded, s') => .next (coachCallEnds p s')
  | _ => .next s

/-- R117: the voice activity after a frame of the samples. -/
def CoachRec.detect (r : CoachRec) (xs : List Int) : CoachRec :=
  if 4000 ≤ energy xs then { r with voiceActive := true, voiceHangover := 8 }
  else if 0 < r.voiceHangover then { r with voiceActive := true, voiceHangover := r.voiceHangover - 1 }
  else { r with voiceActive := false }

/-- R116: the voice samples of the frame; zeros without a receive slot. -/
def coachVoice (c : Source) (s : State) : List Int :=
  if (s.source c).rxSlot.isSome then fitTo 64 0 (look s.bus.voices c) else List.replicate 64 0

/-- R116, R117: the frame of an ATTACHED source. -/
def coachFrameAt (c : Source) (s : State) : State :=
  let xs := coachVoice c s
  match (s.source c).attachment, (s.source c).position with
  | .attached, some p =>
    let s := s.modSource c (fun r => r.detect xs)
    let r := s.source c
    let out : CoachOut := { voice := xs, position := p, mode := r.mode, level := r.level, active := r.voiceActive }
    { s with bus := { s.bus with coachOut := put s.bus.coachOut c (some out) } }
  | _, _ => s

/-- R111: the coach unit takes its frame boundary. -/
def coachFrame (s : State) : State :=
  let s := { s with bus := { s.bus with coachDue := false, coachOut := Vector.replicate 4 none } }
  allSources.foldl (fun s c => coachFrameAt c s) s

/-- COACH_FRAME (R116). -/
def execCoachFrame (s : State) : Host.Outcome State Fault Refusal :=
  if s.bus.coachDue then .next (coachFrame s) else .next s

end Sys2Proof.Machine
end

