-- ==== Sys2Proof/Machine/Echo.lean ====
section
/-!
DEFINITION. The echo unit (chapter 4): the filters, double-talk, divergence and ERLE, the tap pool, and the meanings of
SET_ECHO and of ECHO_CALL_STARTED to ECHO_FRAME.
-/

namespace Sys2Proof.Machine

/-! ### The filter (R62 to R66) -/

/-- R62: the tail length of a canceller. -/
def CancRec.tail (r : CancRec) : Nat := if r.mode = .off then 0 else 64 * r.blocks.length

/-- R62: the taps of a canceller, in delay order. -/
def gatherTaps (taps : Table 128 (List Int)) (blocks : List (Fin 128)) : List Int :=
  blocks.flatMap (fun b => look taps b)

/-- R62: the taps stored back into the blocks of a canceller. -/
def scatterTaps : List (Fin 128) → List Int → Table 128 (List Int) → Table 128 (List Int)
  | [], _, t => t
  | b :: bs, hs, t => scatterTaps bs (hs.drop 64) (put t b (hs.take 64))

/-- R62: the range of a tap. -/
def clampTap (h : Int) : Int := max (-8388608) (min 8388607 h)

/-- R65: the estimate of a sample. -/
def estimate (taps window : List Int) : Int := sat16 (roundDiv (dot taps window) (2 ^ 22))

/-- R66: the update of the taps after a sample's output `e`. -/
def adaptTaps (m : Nat) (e : Int) (taps window : List Int) : List Int :=
  let q := truncDiv (e * 2 ^ (30 - m)) ((sumSquares window + 1024 * taps.length : Nat) : Int)
  List.zipWith (fun h x => clampTap (h + roundDiv (q * x) 256)) taps window

/-- R65, R66: the samples of a frame in order. `rev` is the reference history, newest sample first; with `ds.length` samples
still to come after a sample, its window begins that many places down. -/
def filterSamples (adapting : Bool) (m : Nat) (rev : List Int) : List Int → List Int → List Int × List Int
  | [], taps => (taps, [])
  | d :: ds, taps =>
    let window := (rev.drop ds.length).take taps.length
    let e := sat16 (d - estimate taps window)
    let r := filterSamples adapting m rev ds (if adapting then adaptTaps m e taps window else taps)
    (r.1, e :: r.2)

/-- R63: the reference energy of the frame. -/
def CancRec.refEnergy (r : CancRec) : Nat := energy (r.history.reverse.take 64)

/-- R63: the reference peak. -/
def CancRec.refPeak (r : CancRec) : Nat := peak (r.history.reverse.take (r.tail + 64))

/-- R63: the frame has double-talk. -/
def CancRec.doubleTalk (r : CancRec) (d : List Int) : Bool := decide (r.refPeak / 2 ^ r.dtCode ≤ peak d)

/-- R64: the reference energy reaches p_act. -/
def CancRec.farEnd (r : CancRec) : Bool := decide (r.pAct ≤ r.refEnergy)

/-- R64: the frame is adapting. -/
def CancRec.adapting (r : CancRec) (d : List Int) : Bool :=
  decide (r.mode = .adapt ∧ r.doubleTalk d = false ∧ r.hangoverCount = 0 ∧ r.farEnd = true ∧ 0 < r.tail)

/-- R64: the hangover after the decision. -/
def CancRec.hangoverAfter (r : CancRec) (d : List Int) : Nat :=
  if r.doubleTalk d then r.hangover else r.hangoverCount - 1

/-- R68: an adapting frame is divergent. -/
def divergent (d e : List Int) : Bool := decide (4 * sumSquares d < sumSquares e)

/-- R69: 10^(D/10) times the residual's sum does not exceed the desired signal's. -/
def erleFits (sd se n : Nat) : Bool := decide (10 ^ n * (se + 1) ^ 10 ≤ (sd + 1) ^ 10)

/-- R69: the ERLE in whole decibels, clamped to 0–60. -/
def erleOf (sd se : Nat) : Nat := ((List.range 61).reverse.find? (erleFits sd se)).getD 0

/-- R68, R69: the record after a frame, given its desired samples and its output. -/
def CancRec.afterFrame (r : CancRec) (d e : List Int) : CancRec :=
  { r with
    hangoverCount := r.hangoverAfter d
    divergence := if r.adapting d = true ∧ divergent d e = true then r.divergence + 1 else 0
    erle := if r.adapting d then erleOf (sumSquares d) (sumSquares e) else r.erle }

/-- R65: a canceller's output and taps for the desired samples of a frame. -/
def filterFrame (taps : Table 128 (List Int)) (r : CancRec) (d : List Int) : Table 128 (List Int) × List Int :=
  if 0 < r.tail then
    let out := filterSamples (r.adapting d) r.stepCode r.history.reverse d (gatherTaps taps r.blocks)
    (scatterTaps r.blocks out.1 taps, out.2)
  else (taps, d)

/-- The taps of blocks set to 0. -/
def zeroBlocks (blocks : List (Fin 128)) (t : Table 128 (List Int)) : Table 128 (List Int) :=
  blocks.foldl (fun t b => put t b (List.replicate 64 0)) t

/-- R68, R70: the taps of a canceller set to 0; it keeps its blocks. -/
def zeroTaps (i : CancId) (s : State) : State :=
  { s with echo := { s.echo with taps := zeroBlocks (s.canc i).blocks s.echo.taps } }

/-- R68: eight consecutive divergent frames. -/
def judgeDivergence (i : CancId) (s : State) : State :=
  if 8 ≤ (s.canc i).divergence then
    ((zeroTaps i s).modCanc i (fun r => { r with divergence := 0 })).raise .echo
      (.cancellerReset i.pos i.canc (s.canc i).blocks.length)
  else s

/-- One canceller's frame: the state after it and its output. -/
def cancFrame (i : CancId) (d : List Int) (s : State) : State × List Int :=
  let r := s.canc i
  let out := filterFrame s.echo.taps r d
  let s := { s with echo := { s.echo with taps := out.1 } }
  (judgeDivergence i (s.modCanc i (fun r => r.afterFrame d out.2)), out.2)

/-- R70: the reset that a presence-lost notice has marked. -/
def markedReset (p : Pos) (s : State) : State :=
  if look s.echo.resetMark p then
    let s := (zeroTaps ⟨p, .acoustic⟩ s).modCanc ⟨p, .acoustic⟩ (fun r => { r with divergence := 0 })
    { s with echo := { s.echo with resetMark := put s.echo.resetMark p false } }
  else s

/-- R59, R84: both cancellers of a bound position process the frame and hand their outputs on, the line canceller first
(assumption 43). -/
def echoFrameAt (p : Pos) (s : State) : State :=
  if look s.echo.bound p then
    let acoustic := s.canc ⟨p, .acoustic⟩
    let mic := fitTo 64 0 (look s.bus.mics p).samples
    let line := cancFrame ⟨p, .line⟩ (fitTo 64 0 (look s.bus.customers p)) s
    let near := cancFrame ⟨p, .acoustic⟩ mic line.1
    let out : EchoOut :=
      { customer := line.2, residual := near.2, farEnd := acoustic.farEnd, doubleTalk := acoustic.doubleTalk mic,
        hangover := acoustic.hangoverAfter mic }
    { near.1 with bus := { near.1.bus with echoOut := put near.1.bus.echoOut p (some out) } }
  else s

/-- R59: the echo unit takes its frame boundary, its positions in ascending order (assumption 43). -/
def echoFrame (s : State) : State :=
  let s := { s with bus := { s.bus with echoDue := false, echoOut := Vector.replicate 16 none } }
  let s := allPos.foldl (fun s p => markedReset p s) s
  allPos.foldl (fun s p => echoFrameAt p s) s

/-! ### The reference histories (R60, R61) -/

/-- R58: the length of a canceller's reference history. -/
def historyLength : Canc → Nat
  | .line => 1088
  | .acoustic => 320

/-- R60: a frame appended to a history, whose oldest samples are dropped. -/
def appendFrame (n : Nat) (h xs : List Int) : List Int := (h ++ xs).drop ((h ++ xs).length - n)

/-- R60: the echo unit appends a reference frame; "A history whose position is not bound receives no frames". -/
def appendReference (i : CancId) (xs : List Int) (s : State) : State :=
  if look s.echo.bound i.pos = false then s
  else s.modCanc i (fun r => { r with history := appendFrame (historyLength i.canc) r.history xs })

/-! ### The tap pool (R73 to R75) -/

/-- A block inserted into an ascending list. -/
def insertBlock (b : Fin 128) : List (Fin 128) → List (Fin 128)
  | [] => [b]
  | c :: cs => if b.val ≤ c.val then b :: c :: cs else c :: insertBlock b cs

/-- Blocks in ascending order of block number. -/
def sortBlocks (bs : List (Fin 128)) : List (Fin 128) := bs.foldr insertBlock []

/-- R73: the shortfall of a canceller. -/
def CancRec.shortfall (r : CancRec) : Nat := r.requested - r.blocks.length

/-- R73: blocks granted to a canceller: appended at the long-delay end, their taps 0. -/
def grantBlocks (i : CancId) (bs : List (Fin 128)) (s : State) : State :=
  let s := s.modCanc i (fun r => { r with blocks := r.blocks ++ bs })
  { s with echo := { s.echo with taps := zeroBlocks bs s.echo.taps } }

/-- R74: a canceller joins the tap wait list, unless it stands there. -/
def joinWait (i : CancId) (s : State) : State :=
  if s.echo.waiting.contains i then s else { s with echo := { s.echo with waiting := s.echo.waiting ++ [i] } }

/-- R74: a canceller leaves the tap wait list. -/
def leaveWait (i : CancId) (s : State) : State :=
  { s with echo := { s.echo with waiting := s.echo.waiting.filter (fun j => decide (j ≠ i)) } }

/-- R73: a canceller asks the pool for blocks. -/
def askBlocks (i : CancId) (s : State) : State :=
  let n := (s.canc i).shortfall
  let given := s.echo.free.take n
  let s := grantBlocks i given { s with echo := { s.echo with free := s.echo.free.drop n } }
  let r := s.canc i
  if 0 < r.shortfall then
    (joinWait i s).raise .echo (.tapShort i.pos i.canc r.requested r.blocks.length)
  else s

/-- R75, steps 2 and 3: the wait list `ws` served with freed blocks; the state, the cancellers that stay and the blocks
that are left. -/
def serveWaiting : List CancId → List (Fin 128) → State → State × List CancId × List (Fin 128)
  | [], freed, s => (s, [], freed)
  | i :: ws, freed, s =>
    let n := (s.canc i).shortfall
    let given := freed.take n
    if given = [] then
      let r := serveWaiting ws freed s
      (r.1, i :: r.2.1, r.2.2)
    else
      let s := grantBlocks i given s
      let s := s.raise .echo (.tapToppedUp i.pos i.canc (s.canc i).requested (s.canc i).blocks.length)
      let r := serveWaiting ws (freed.drop n) s
      (r.1, if 0 < (s.canc i).shortfall then i :: r.2.1 else r.2.1, r.2.2)

/-- R75: blocks released to the pool: first to the cancellers that wait, then to the free list. -/
def releaseBlocks (bs : List (Fin 128)) (s : State) : State :=
  let r := serveWaiting s.echo.waiting (sortBlocks bs) s
  { r.1 with echo := { r.1.echo with waiting := r.2.1, free := sortBlocks (r.1.echo.free ++ r.2.2) } }

/-- R67, R72: a canceller releases every block of its list. -/
def releaseAll (i : CancId) (s : State) : State :=
  releaseBlocks (s.canc i).blocks (s.modCanc i (fun r => { r with blocks := [] }))

/-! ### The notices of a call (R70 to R72) -/

/-- R71, step 2: a canceller at the start of a call. -/
def freshCall (i : CancId) (s : State) : State :=
  s.modCanc i (fun r =>
    { r with history := List.replicate (historyLength i.canc) 0, hangoverCount := 0, divergence := 0, erle := 0 })

/-- R71, step 3: a canceller asks for its blocks, unless its mode is OFF. -/
def askUnlessOff (i : CancId) (s : State) : State := if (s.canc i).mode = .off then s else askBlocks i s

/-- R71: the echo unit takes a call-started notice. -/
def echoCallStarts (p : Pos) (s : State) : State :=
  let s := { s with echo := { s.echo with bound := put s.echo.bound p true } }
  let s := freshCall ⟨p, .acoustic⟩ (freshCall ⟨p, .line⟩ s)
  askUnlessOff ⟨p, .acoustic⟩ (askUnlessOff ⟨p, .line⟩ s)

/-- R72: the echo unit takes a call-ended notice. -/
def echoCallEnds (p : Pos) (s : State) : State :=
  let s := { s with echo := { s.echo with bound := put s.echo.bound p false } }
  let s := leaveWait ⟨p, .acoustic⟩ (leaveWait ⟨p, .line⟩ s)
  let s := releaseAll ⟨p, .acoustic⟩ (releaseAll ⟨p, .line⟩ s)
  let calm := fun (r : CancRec) => { r with hangoverCount := 0, divergence := 0 }
  (s.modCanc ⟨p, .line⟩ calm).modCanc ⟨p, .acoustic⟩ calm

/-- ECHO_CALL_STARTED (R71). -/
def execEchoCallStarted (p : Pos) (s : State) : Host.Outcome State Fault Refusal :=
  match s.takeNotice (.record p) .echo with
  | some (.callStarted _ _, s') => .next (echoCallStarts p s')
  | _ => .next s

/-- ECHO_CALL_ENDED (R72). -/
def execEchoCallEnded (p : Pos) (s : State) : Host.Outcome State Fault Refusal :=
  match s.takeNotice (.record p) .echo with
  | some (.callEnded, s') => .next (echoCallEnds p s')
  | _ => .next s

/-- ECHO_PRESENCE_LOST (R70). -/
def execEchoPresenceLost (p : Pos) (s : State) : Host.Outcome State Fault Refusal :=
  match s.takeNotice (.link p) .echo with
  | some (.presenceLost, s') =>
    .next { s' with echo := { s'.echo with resetMark := put s'.echo.resetMark p true } }
  | _ => .next s

/-- ECHO_FRAME (R59, R63 to R70). -/
def execEchoFrame (s : State) : Host.Outcome State Fault Refusal :=
  if s.bus.echoDue then .next (echoFrame s) else .next s

/-! ### SET_ECHO (R76 to R80) -/

/-- The fields of SET_ECHO held against their ranges. -/
structure EchoSettings where
  canc : Canc
  mode : Option CancMode
  requested : Option Nat
  stepCode : Option Nat
  dtCode : Option Nat
  hangover : Option Nat
  pAct : Option Nat
  deriving DecidableEq, Repr

/-- The canceller a byte names. -/
def canc? : Nat → Option Canc
  | 0 => some .line
  | 1 => some .acoustic
  | _ => none

/-- R58: the longest tail of a canceller, in blocks. -/
def mostBlocks : Canc → Nat
  | .line => 16
  | .acoustic => 4

/-- R76: the checks after the position's; all refuse with RANGE. -/
def SetEchoArgs.checked (a : SetEchoArgs) : Option EchoSettings := do
  let c ← canc? a.canceller
  let mode ← optWith cancMode? a.mode
  let requested ← optWith (within 1 (mostBlocks c)) a.requested
  let stepCode ← optWith (within 0 6) a.stepCode
  let dtCode ← optWith (within 0 4) a.dtCode
  let hangover ← optWith (within 0 15) a.hangover
  let pAct ← optWith (within 0 65535) a.pAct
  some ⟨c, mode, requested, stepCode, dtCode, hangover, pAct⟩

/-- R77, R78, step 1: the parameters. -/
def EchoSettings.parameters (a : EchoSettings) (r : CancRec) : CancRec :=
  { r with
    stepCode := a.stepCode.getD r.stepCode
    dtCode := a.dtCode.getD r.dtCode
    hangover := a.hangover.getD r.hangover
    pAct := a.pAct.getD r.pAct }

/-- R77: the settings of a position that is not bound. -/
def EchoSettings.unbound (a : EchoSettings) (r : CancRec) : CancRec :=
  { a.parameters r with mode := a.mode.getD r.mode, requested := a.requested.getD r.requested }

/-- R67: a change of mode on a bound position. -/
def changeMode (i : CancId) (m : CancMode) (s : State) : State :=
  let old := (s.canc i).mode
  if old = m then s
  else
    let s := s.modCanc i (fun r => { r with mode := m })
    if m = .off then releaseAll i (leaveWait i (s.modCanc i (fun r => { r with divergence := 0 })))
    else if old = .off then askBlocks i s
    else s

/-- R79: requested_blocks written on a bound position. -/
def changeTail (i : CancId) (n : Nat) (s : State) : State :=
  let s := s.modCanc i (fun r => { r with requested := n })
  let r := s.canc i
  if r.mode = .off then s
  else if r.blocks.length < n then (if s.echo.waiting.contains i then s else askBlocks i s)
  else
    let s := leaveWait i s
    if r.blocks.length = n then s
    else releaseBlocks (r.blocks.drop n) (s.modCanc i (fun r => { r with blocks := r.blocks.take n }))

/-- R77, R78: an accepted SET_ECHO. -/
def echoSettingsEffect (p : Pos) (a : EchoSettings) (s : State) : State :=
  let i : CancId := ⟨p, a.canc⟩
  if look s.echo.bound p then
    let s := s.modCanc i (fun r =>
      let r := a.parameters r
      { r with hangoverCount := if a.hangover.isSome then min r.hangoverCount r.hangover else r.hangoverCount })
    let s := match a.mode with
      | none => s
      | some m => changeMode i m s
    match a.requested with
    | none => s
    | some n => changeTail i n s
  else s.modCanc i a.unbound

/-- R80: the answer of SET_ECHO. -/
def echoReport (p : Pos) (c : Canc) (s : State) : List Byte :=
  let r := s.canc ⟨p, c⟩
  outFin p ++ outCanc c ++ outCancMode r.mode ++ out8 r.requested ++ out8 r.stepCode ++ out8 r.dtCode
    ++ out8 r.hangover ++ out16 r.pAct ++ out8 r.blocks.length ++ outBool (s.echo.waiting.contains ⟨p, c⟩)
    ++ out8 s.echo.free.length

/-- SET_ECHO (R76). -/
def setEcho (port : PortId) (slot : ReqSlot) (a : SetEchoArgs) (s : State) : State :=
  match index? 16 a.position, a.checked with
  | some p, some v =>
    let s := echoSettingsEffect p v s
    s.respond port slot .ok (echoReport p v.canc s)
  | _, _ => s.respond port slot .range []

/-- SET_ECHO (R76 to R80). -/
def execSetEcho (port : PortId) (slot : ReqSlot) (s : State) : Host.Outcome State Fault Refusal :=
  .next (s.serve port slot .setEcho (fun b s =>
    match parseSetEcho b with
    | some a => setEcho port slot a s
    | none => s.respond port slot .range []))

end Sys2Proof.Machine
end

