-- ==== Sys2Proof/Config.lean ====
section
/-!
DEFINITION. What the manual leaves to the implementation or leaves open: constants without a body, so that nothing can
be proved about their values.
-/

namespace Sys2Proof.Config

/-- R32: "A missed period without bit clocks carries no bits. Its samples are lost, and its place in the frame period
still counts." The manual does not say what stands in the frame at that place. The n-th such period of a run takes, for
each receive timeslot, this free value (assumption 5). -/
opaque lostSample : Nat → Timeslot → BitVec 16

/-- R190: "the silicon revision, an integer of 1–255". The revision is this constant plus 1 (assumption 6). -/
opaque siliconRevisionLessOne : Fin 255

end Sys2Proof.Config
end

