-- ==== Sys2Proof/Machine/Links.lean ====
section
/-!
DEFINITION. The station links (chapter 3): the link frames, presence, training, the error window, the link requests and
the absence timer, and the meanings of SET_LINK to LINK_RETRAIN and of UPSTREAM_FRAME to ABSENCE_TIMEOUT.
-/

namespace Sys2Proof.Machine

/-! ### Link frames (R37, R38, R39) -/

/-- The sum modulo 16 of the lowest `groups` 4-bit groups of a number (R37). -/
def nibbleSum : Nat → Nat → Nat
  | 0, _ => 0
  | groups + 1, n => (n % 16 + nibbleSum groups (n / 16)) % 16

/-- R39: the check of an upstream link frame agrees. -/
def upGood (b : BitVec 24) : Bool := decide (nibbleSum 5 (b.toNat / 16) = b.toNat % 16)

/-- R37, upstream bits 0–15: mic. -/
def upMic (b : BitVec 24) : Int := sampleOfWord (b.extractLsb' 8 16)

/-- R37, upstream bit 16: present. -/
def upPresent (b : BitVec 24) : Bool := b.getLsbD 7

/-- R37, upstream bit 17: mute_edge. -/
def upMuteEdge (b : BitVec 24) : Bool := b.getLsbD 6

/-- R37, upstream bit 18: ack. -/
def upAck (b : BitVec 24) : Bool := b.getLsbD 5

/-- R37, upstream bit 19: the lanes offered. -/
def upOffer (b : BitVec 24) : Nat := if b.getLsbD 4 then 2 else 1

/-- R37: a downstream link frame of two ear samples and a control symbol, with its check. -/
def downFrame (ear0 ear1 : Int) (control : BitVec 4) : BitVec 40 :=
  let body : BitVec 36 := wordOfSample ear0 ++ wordOfSample ear1 ++ control
  body ++ BitVec.ofNat 4 (nibbleSum 9 body.toNat)

/-- R38: the control symbol of a link state. -/
def controlOf (r : LinkRec) : BitVec 4 :=
  match r.linkState with
  | .active => 0xC
  | .negotiate | .recovery =>
    match r.phase with
    | some .select => if r.selected = some 2 then 0xA else 0x9
    | _ => 0x5
  | .disabled | .detect | .failed => 0x0

/-- R38: the ear samples of position `p` for the sample period in progress: the mixer's output while frames run, zeros in
a collection period and while sync is not held (R33, R34, R35). -/
def earSamples (p : Pos) (s : State) : Int × Int :=
  if s.highway.sync = .inSync ∧ s.highway.collecting = false ∧ 1 ≤ s.highway.sampleIx then
    match look s.bus.earOut p with
    | some (e0, e1) => (e0.getD (s.highway.sampleIx - 1) 0, e1.getD (s.highway.sampleIx - 1) 0)
    | none => (0, 0)
  else (0, 0)

/-- R38: the downstream link frame of position `p` as its link state stands; none in DISABLED. -/
def formDown (p : Pos) (s : State) : Option (BitVec 40) :=
  let r := s.link p
  match r.linkState with
  | .disabled => none
  | .active =>
    let e := earSamples p s
    some (downFrame e.1 (if r.lanes = 2 then e.2 else 0) (controlOf r))
  | _ => some (downFrame 0 0 (controlOf r))

/-! ### Changes of the link state -/

/-- R43: the beginning of a negotiation attempt, in NEGOTIATE or RECOVERY. -/
def LinkRec.beginAttempt (st : LinkState) (r : LinkRec) : LinkRec :=
  { r with linkState := st, phase := some .probe, selected := none, attemptFrames := 0, lastOffer := none }

/-- R55: the absence timer starts; with grace 0 it expires as it starts. -/
def startTimer (p : Pos) (s : State) : State :=
  let r := s.link p
  if r.grace = 0 then
    (s.modLink p (fun r => { r with absenceTimer := .expired })).tell (.link p) (.record p) (.absenceExpiry r.callSerial)
  else s.modLink p (fun r => { r with absenceTimer := .running (r.grace * 1000) })

/-- R50: the link has left ACTIVE: the absence timer starts if a call is bound. -/
def leftActive (p : Pos) (s : State) : State := if (s.link p).callBound then startTimer p s else s

/-- R48, R49: an autonomous recovery. -/
def beginRecovery (p : Pos) (cause : RecoverCause) (s : State) : State :=
  let s := s.modLink p (fun r => { r.beginAttempt .recovery with lanesBefore := r.lanes, autonomous := true })
  leftActive p (s.raise (.link p) (.linkRecovering p cause (s.link p).errorCount))

/-- R42: the link state after a loss of presence. -/
def LinkRec.afterLoss (r : LinkRec) : LinkRec :=
  let r := { r with retryCount := 0, autonomous := false }
  match r.linkState with
  | .active | .negotiate | .recovery | .failed => { r with linkState := .detect, phase := none, selected := none }
  | .detect | .disabled => r

/-- R41, R42: present becomes clear. -/
def presenceLost (p : Pos) (s : State) : State :=
  let wasActive := (s.link p).linkState = .active
  let s := s.modLink p (fun r => { r with present := false, senseRun := 0 })
  let s := s.raise (.link p) (.presenceChanged p false)
  let s := s.modLink p LinkRec.afterLoss
  let s := if wasActive then leftActive p (s.raise (.link p) (.linkDown p .presenceLost)) else s
  (s.tell (.link p) .echo .presenceLost).tell (.link p) .supp .presenceLost

/-- R41: present becomes set. -/
def presenceSet (p : Pos) (s : State) : State :=
  (s.modLink p (fun r => { r with present := true, senseRun := 0 })).raise (.link p) (.presenceChanged p true)

/-- R41: one sample of the presence sense. -/
def senseSample (p : Pos) (plugged : Bool) (s : State) : State :=
  let r := s.link p
  if r.present = plugged then s.modLink p (fun r => { r with senseRun := 0 })
  else if r.senseRun + 1 < 64 then s.modLink p (fun r => { r with senseRun := r.senseRun + 1 })
  else if plugged then presenceSet p s
  else presenceLost p s

/-- R45: an attempt fails. -/
def attemptFails (p : Pos) (s : State) : State :=
  let s := s.modLink p (fun r => { r with retryCount := r.retryCount + 1, phase := none, selected := none })
  if (s.link p).retryCount = 4 then
    (s.modLink p (fun r => { r with linkState := .failed })).raise (.link p) (.linkFailed p (s.link p).lastOffer)
  else s.modLink p (fun r => { r with linkState := .detect })

/-- R46: the record as the link enters ACTIVE. -/
def LinkRec.enterActive (r : LinkRec) : LinkRec :=
  { r with linkState := .active, lanes := r.selected.getD 1, retryCount := 0, phase := none, selected := none,
           windowStart := r.linkFrame, errorCount := 0, lastGoodMic := 0 }

/-- R57: the timer ends at the return. -/
def returnOf (p : Pos) (s : State) : State :=
  if (s.link p).callBound then
    (s.modLink p (fun r => { r with absenceTimer := .stopped })).tell (.link p) (.record p)
      (.linkReturn (s.link p).callSerial)
  else s

/-- R46: an attempt completes. -/
def attemptCompletes (p : Pos) (s : State) : State :=
  let r := s.link p
  let s := s.modLink p LinkRec.enterActive
  let n := (s.link p).lanes
  let s := s.raise (.link p) (.linkUp p n)
  let s := if r.retrainRequested then s.raise (.link p) (.renegotiated p n) else s
  let s :=
    if r.autonomous = true ∧ n ≠ r.lanesBefore then s.raise (.link p) (.autonomousChange p r.lanesBefore n) else s
  let s := s.modLink p (fun r => { r with retrainRequested := false, autonomous := false })
  returnOf p (s.tell (.link p) .supp (.lanes n))

/-! ### The two directions of a link frame -/

/-- R47: the microphone sample of a link frame in ACTIVE, entered in the frame period in progress; while sync is not held
it is discarded. -/
def enterMic (p : Pos) (x : Int) (s : State) : State :=
  if s.highway.sync = .inSync ∧ 1 ≤ s.highway.sampleIx then
    match index? 64 (s.highway.sampleIx - 1) with
    | some i => s.modLink p (fun r => { r with mic := put r.mic i (some x) })
    | none => s
  else s

/-- R39, R48: an upstream frame that fails its check. -/
def upstreamFails (p : Pos) (s : State) : State :=
  if (s.link p).linkState = .active then
    let s := enterMic p (s.link p).lastGoodMic s
    let s := s.modLink p (fun r => { r with errorCount := r.errorCount + 1 })
    if 16 ≤ (s.link p).errorCount then beginRecovery p .errors s else s
  else s

/-- R39, R47: the microphone sample of a good upstream frame. -/
def upstreamMic (p : Pos) (b : BitVec 24) (s : State) : State :=
  if (s.link p).linkState = .active then
    enterMic p (upMic b) (s.modLink p (fun r => { r with lastGoodMic := upMic b }))
  else s

/-- R41: the adapter's report of a good upstream frame. -/
def upstreamPresent (p : Pos) (b : BitVec 24) (s : State) : State :=
  if upPresent b = false ∧ (s.link p).present = true then presenceLost p s else s

/-- R54: the mute edge of a good upstream frame. -/
def upstreamMute (p : Pos) (b : BitVec 24) (s : State) : State :=
  if upMuteEdge b then s.tell (.link p) (.record p) .muteEdge else s

/-- R44: the first good frame with ack 0 of the probe phase. -/
def LinkRec.beginSelect (offer : Nat) (r : LinkRec) : LinkRec :=
  { r with lastOffer := some offer, selected := some (min offer r.maxLanes), phase := some .select }

/-- R43, R44, R46, R49: ack and offer of a good upstream frame. -/
def upstreamAck (p : Pos) (b : BitVec 24) (s : State) : State :=
  let r := s.link p
  match r.linkState with
  | .active => if upAck b then s else beginRecovery p .adapter s
  | .negotiate | .recovery =>
    match r.phase with
    | some .select => if upAck b then attemptCompletes p s else s
    | _ => if upAck b then s else s.modLink p (LinkRec.beginSelect (upOffer b))
  | .disabled | .detect | .failed => s

/-- R39: an upstream link frame, received in every link state other than DISABLED. The status fields are taken in the
order of their bits (assumption 14). -/
def upstream (p : Pos) (b : BitVec 24) (s : State) : State :=
  if (s.link p).linkState = .disabled then s
  else if upGood b then upstreamAck p b (upstreamMute p b (upstreamPresent p b (upstreamMic p b s)))
  else upstreamFails p s

/-- R43: present is set in DETECT. -/
def LinkRec.mayBegin (r : LinkRec) : Bool := decide (r.linkState = .detect) && r.present

/-- R48: the link frame to come opens a new error window. -/
def LinkRec.windowOver (r : LinkRec) : Bool :=
  decide (r.linkState = .active ∧ r.windowStart + 16000 ≤ r.linkFrame + 1)

/-- R48: a new error window. -/
def LinkRec.renewWindow (r : LinkRec) : LinkRec := { r with windowStart := r.windowStart + 16000, errorCount := 0 }

/-- R43, R48: what a link record does as a link frame begins. -/
def LinkRec.frameBegins (r : LinkRec) : LinkRec :=
  let r := if r.mayBegin then r.beginAttempt .negotiate else r
  let r := if r.windowOver then r.renewWindow else r
  { r with linkFrame := r.linkFrame + 1 }

/-- R43: an attempt is in progress. -/
def LinkRec.attempting (r : LinkRec) : Bool := decide (r.linkState = .negotiate ∨ r.linkState = .recovery)

/-- R44, R45: the link frame counts toward the attempt. -/
def countAttempt (p : Pos) (s : State) : State :=
  if (s.link p).attempting then
    let s := s.modLink p (fun r => { r with attemptFrames := min 800 (r.attemptFrames + 1) })
    if (s.link p).attemptFrames = 800 then attemptFails p s else s
  else s

/-- R37, R38: a downstream link frame. -/
def downstream (p : Pos) (s : State) : State :=
  if (s.link p).linkState = .disabled then s
  else
    let s := s.modLink p LinkRec.frameBegins
    countAttempt p (s.modLink p (fun r => { r with down := formDown p s }))

/-! ### Meanings of the link frames and of presence -/

/-- UPSTREAM_FRAME (R39). -/
def execUpstreamFrame (p : Pos) (bits : BitVec 24) (s : State) : Host.Outcome State Fault Refusal :=
  .next (upstream p bits s)

/-- DOWNSTREAM_FRAME (R38). -/
def execDownstreamFrame (p : Pos) (s : State) : Host.Outcome State Fault Refusal := .next (downstream p s)

/-- PRESENCE_SAMPLE (R41). -/
def execPresenceSample (p : Pos) (plugged : Bool) (s : State) : Host.Outcome State Fault Refusal :=
  .next (senseSample p plugged s)

/-- PRESENCE_SENSE_CHANGE (R41, R42): the 64th disagreeing sample (assumption 4). -/
def execPresenceSenseChange (p : Pos) (s : State) : Host.Outcome State Fault Refusal :=
  if 63 ≤ (s.link p).senseRun then .next (senseSample p (!(s.link p).present) s) else .next s

/-- NEGOTIATION_START (R43). -/
def execNegotiationStart (p : Pos) (s : State) : Host.Outcome State Fault Refusal :=
  if (s.link p).mayBegin then .next (s.modLink p (LinkRec.beginAttempt .negotiate)) else .next s

/-- ATTEMPT_TIMEOUT (R45): the 800th link frame of an attempt (assumption 4). -/
def execAttemptTimeout (p : Pos) (s : State) : Host.Outcome State Fault Refusal :=
  if (s.link p).attempting = true ∧ 799 ≤ (s.link p).attemptFrames then .next (downstream p s) else .next s

/-- ERROR_WINDOW_RENEW (R48). -/
def execErrorWindowRenew (p : Pos) (s : State) : Host.Outcome State Fault Refusal :=
  if (s.link p).windowOver then .next (s.modLink p LinkRec.renewWindow) else .next s

/-! ### Link requests (R51, R52, R53) -/

/-- The answer to a link request: a refusal, or OK with the new link_state. -/
def answerLink (port : PortId) (slot : ReqSlot) (p : Pos) (s : State) : State :=
  s.respond port slot .ok (outLinkState (s.link p).linkState)

/-- A link request that names a position: RANGE outside 0–15. -/
def onLink (port : PortId) (slot : ReqSlot) (n : Nat) (f : Pos → State → State) (s : State) : State :=
  match index? 16 n with
  | none => s.respond port slot .range []
  | some p => f p s

/-- SET_LINK (R53). -/
def setLink (port : PortId) (slot : ReqSlot) (a : Nat × Nat) (s : State) : State :=
  onLink port slot a.1 (fun p s =>
    if a.2 = 1 ∨ a.2 = 2 then
      let s := s.modLink p (fun r => { r with maxLanes := a.2 })
      s.respond port slot .ok (out8 (s.link p).maxLanes ++ out8 (s.link p).lanes)
    else s.respond port slot .range []) s

/-- R51: LINK_ENABLE in DISABLED. -/
def linkEnable (port : PortId) (slot : ReqSlot) (n : Nat) (s : State) : State :=
  onLink port slot n (fun p s =>
    if (s.link p).linkState = .disabled then
      answerLink port slot p (s.modLink p (fun r => { r with linkState := .detect }))
    else s.respond port slot .state []) s

/-- R51: the record after an accepted LINK_DISABLE. -/
def LinkRec.disable (r : LinkRec) : LinkRec :=
  { r with linkState := .disabled, retryCount := 0, retrainRequested := false, autonomous := false, phase := none,
           selected := none, down := none }

/-- R51: an accepted LINK_DISABLE. -/
def disableEffect (p : Pos) (s : State) : State :=
  let wasActive := (s.link p).linkState = .active
  let s := s.modLink p LinkRec.disable
  if wasActive then leftActive p (s.raise (.link p) (.linkDown p .disabled)) else s

/-- LINK_DISABLE (R51). -/
def linkDisable (port : PortId) (slot : ReqSlot) (n : Nat) (s : State) : State :=
  onLink port slot n (fun p s =>
    if (s.link p).linkState = .disabled then s.respond port slot .state []
    else answerLink port slot p (disableEffect p s)) s

/-- R52: LINK_RETRAIN taken in ACTIVE. -/
def retrainActive (p : Pos) (s : State) : State :=
  let s := s.modLink p (fun r => { r.beginAttempt .recovery with retrainRequested := true, lanesBefore := r.lanes })
  leftActive p (s.raise (.link p) (.linkRecovering p .request (s.link p).errorCount))

/-- LINK_RETRAIN (R52). -/
def linkRetrain (port : PortId) (slot : ReqSlot) (n : Nat) (s : State) : State :=
  onLink port slot n (fun p s =>
    match (s.link p).linkState with
    | .active => answerLink port slot p (retrainActive p s)
    | .recovery => answerLink port slot p (s.modLink p (fun r => { r with retrainRequested := true }))
    | .failed =>
      answerLink port slot p
        (s.modLink p (fun r => { r with retrainRequested := true, retryCount := 0, linkState := .detect }))
    | .disabled | .detect | .negotiate => s.respond port slot .state []) s

/-- SET_LINK (R53). -/
def execSetLink (port : PortId) (slot : ReqSlot) (s : State) : Host.Outcome State Fault Refusal :=
  .next (serveTwo port slot .setLink (setLink port slot) s)

/-- LINK_ENABLE (R51). -/
def execLinkEnable (port : PortId) (slot : ReqSlot) (s : State) : Host.Outcome State Fault Refusal :=
  .next (serveOne port slot .linkEnable (linkEnable port slot) s)

/-- LINK_DISABLE (R51). -/
def execLinkDisable (port : PortId) (slot : ReqSlot) (s : State) : Host.Outcome State Fault Refusal :=
  .next (serveOne port slot .linkDisable (linkDisable port slot) s)

/-- LINK_RETRAIN (R52). -/
def execLinkRetrain (port : PortId) (slot : ReqSlot) (s : State) : Host.Outcome State Fault Refusal :=
  .next (serveOne port slot .linkRetrain (linkRetrain port slot) s)

/-! ### The absence timer (R55, R56) -/

/-- R55: the link controller takes a call-started notice. -/
def linkCallStarts (p : Pos) (serial : Byte) (grace : Nat) (s : State) : State :=
  let s := s.modLink p (fun r => { r with callBound := true, callSerial := serial, grace := grace })
  if (s.link p).linkState = .active then s else startTimer p s

/-- LINK_CALL_STARTED (R55). -/
def execLinkCallStarted (p : Pos) (s : State) : Host.Outcome State Fault Refusal :=
  match s.takeNotice (.record p) (.link p) with
  | some (.callStarted serial grace, s') => .next (linkCallStarts p serial grace s')
  | _ => .next s

/-- LINK_CALL_ENDED (R55). -/
def execLinkCallEnded (p : Pos) (s : State) : Host.Outcome State Fault Refusal :=
  match s.takeNotice (.record p) (.link p) with
  | some (.callEnded, s') => .next (s'.modLink p (fun r => { r with callBound := false, absenceTimer := .stopped }))
  | _ => .next s

/-- ABSENCE_GRACE_NOTICE (R55). -/
def execAbsenceGraceNotice (p : Pos) (s : State) : Host.Outcome State Fault Refusal :=
  match s.takeNotice (.record p) (.link p) with
  | some (.absenceGrace g, s') => .next (s'.modLink p (fun r => { r with grace := g }))
  | _ => .next s

/-- ABSENCE_TIMEOUT (R56): a RUNNING timer has reached 0 remaining. -/
def execAbsenceTimeout (p : Pos) (s : State) : Host.Outcome State Fault Refusal :=
  if (s.link p).absenceTimer = .running 0 then
    .next ((s.modLink p (fun r => { r with absenceTimer := .expired })).tell (.link p) (.record p)
      (.absenceExpiry (s.link p).callSerial))
  else .next s

end Sys2Proof.Machine
end

