-- ==== Sys2Proof/Machine/Mix.lean ====
section
/-!
DEFINITION. The suppressor and mixer (chapter 5): the suppressor frame, comfort noise, the send, ear and monitor mixes,
and the meanings of SET_SUPPRESSOR and of SUPP_CALL_STARTED to MIX_FRAME.
-/

namespace Sys2Proof.Machine

/-! ### The suppressor frame (R86 to R90) -/

/-- R86: the floor after a tracked frame of energy `e`. -/
def trackFloor (n e : Nat) : Nat :=
  if n = 0 ∨ e < n then max e 1 else min e (n + max 1 (n / 64))

/-- R87: the target gain of a frame of energy `e`. -/
def SuppRec.target (r : SuppRec) (e : Nat) : Nat :=
  if e = 0 then r.gMin else max r.gMin (16384 - 16384 * r.alphaQ * r.noiseFloor / (4 * e))

/-- R88, R93: a gain word applied to a sample. -/
def applyGain (x g : Int) : Int := sat16 (roundDiv (x * g) 16384)

/-- R88: the agent voice: the frame under a gain that ramps. -/
def rampFrame (g t : Int) (xs : List Int) : List Int := xs.mapIdx (fun i x => applyGain x (ramp g t i))

/-- R90, step 1: one step of the comfort-noise register. -/
def cnStep (r : BitVec 16) : BitVec 16 :=
  (r <<< 1) ||| (BitVec.ofBool (r.getLsbD 15 ^^ r.getLsbD 13 ^^ r.getLsbD 12 ^^ r.getLsbD 10)).setWidth 16

/-- R90: so many comfort-noise samples of amplitude `a`, with the register after them. -/
def cnSamples (a : Nat) : Nat → BitVec 16 → BitVec 16 × List Int
  | 0, r => (r, [])
  | n + 1, r =>
    let r := cnStep r
    let rest := cnSamples a n r
    (rest.1, roundDiv (r.toInt * a) 32768 :: rest.2)

/-- R90: the amplitude of comfort noise. -/
def SuppRec.cnAmplitude (r : SuppRec) : Nat :=
  min 32767 (roundDiv ((isqrt (3 * r.noiseFloor) * r.gMin : Nat) : Int) 16384).toNat

/-- R89: two frames under weights that ramp. -/
def crossfade (va vb ca cb : Int) (v cn : List Int) : List Int :=
  (List.zip v cn).mapIdx (fun i x => sat16 (roundDiv (x.1 * ramp va vb i + x.2 * ramp ca cb i) 16384))

/-- R89: the agent voice after NLP. -/
def nlpVoice (last now : Bool) (v cn : List Int) : List Int :=
  match last, now with
  | false, false => v
  | true, true => cn
  | false, true => crossfade 16384 0 0 16384 v cn
  | true, false => crossfade 0 16384 16384 0 v cn

/-- R84: what the block takes for a position whose echo unit hands nothing. -/
def EchoOut.missing : EchoOut where
  customer := List.replicate 64 0
  residual := List.replicate 64 0
  farEnd := false
  doubleTalk := false
  hangover := 0

/-- R86: the record after the floor tracking of a frame. -/
def SuppRec.track (r : SuppRec) (whole : Bool) (x : EchoOut) : SuppRec :=
  if x.farEnd = false ∧ whole = true then { r with noiseFloor := trackFloor r.noiseFloor (energy x.residual) } else r

/-- R89: residual-echo control engages on the frame. -/
def SuppRec.engages (r : SuppRec) (x : EchoOut) : Bool :=
  r.nlp && x.farEnd && !x.doubleTalk && decide (x.hangover = 0)

/-- What the suppressor makes of a frame: its record, the voice for monitoring and the voice after NLP. -/
structure SuppFrame where
  after : SuppRec
  v : List Int
  w : List Int
  deriving DecidableEq, Repr

/-- R86 to R90: the suppressor frame of a position. -/
def SuppRec.frame (r : SuppRec) (whole : Bool) (x : EchoOut) : SuppFrame :=
  let r := r.track whole x
  let target := r.target (energy x.residual)
  let v := rampFrame r.gain target x.residual
  let now := r.engages x
  let cn := if now || r.nlpEngaged then cnSamples r.cnAmplitude 64 r.cnRegister else (r.cnRegister, [])
  { after := { r with gain := target, nlpEngaged := now, cnRegister := cn.1 }
    v := v
    w := nlpVoice r.nlpEngaged now v cn.2 }

/-! ### Terms (R92 to R94) -/

/-- R92: a term of a mix: its samples, its gain of the previous frame and its target. -/
structure Term where
  samples : List Int
  gain : Nat
  target : Nat
  deriving DecidableEq, Repr

/-- R93: the product of a term at sample `i`. -/
def Term.at (t : Term) (i : Nat) : Int := t.samples.getD i 0 * ramp t.gain t.target i

/-- R96, R99: the sample that a sum of products gives. -/
def mixSample (sum : Int) : Int := sat16 (roundDiv sum 16384)

/-- R96: the exact sum of the terms at sample `i`. -/
def sumTerms (ts : List Term) (i : Nat) : Int := (ts.map (fun t => t.at i)).foldl (· + ·) 0

/-- R94: the audio frame of the player that serves the position with a one-shot of a kind. -/
def servedBy (bus : FrameBus) (p : Pos) (kind : OneShot) : Option PlayerOut :=
  allPlayers.findSome? (fun k => (look bus.playerOut k).filter (fun o => decide (o.served = some (p, kind))))

/-- R94: the audio frame of a MUSIC player. -/
def musicFrame (bus : FrameBus) (k : PlayerNo) : Option PlayerOut :=
  (look bus.playerOut k).filter (fun o => decide (o.served = none))

/-- R94: the position is subscribed to player `k`. -/
def subscribedTo (bus : FrameBus) (p : Pos) (k : PlayerNo) : Bool :=
  (musicFrame bus k).any (fun o => o.subscribers.contains p)

/-- R113, R116: the coach frame of the source attached to the position. -/
def coachOf (bus : FrameBus) (p : Pos) : Option CoachOut :=
  allSources.findSome? (fun c => (look bus.coachOut c).filter (fun o => decide (o.position = p)))

/-- Section 5.6: the mode in effect for the call state; none where no coach voice is heard. -/
def modeInEffect (st : CallState) (m : CoachMode) : Option CoachMode :=
  match st, m with
  | .idle, _ => none
  | _, .monitor => none
  | .talk, m => some m
  | _, _ => some .coach

/-- The samples of an audio frame that may be missing. -/
def samplesOr (o : Option PlayerOut) : List Int :=
  match o with
  | some o => o.samples
  | none => List.replicate 64 0

/-! ### The send mix (R95, R96) -/

/-- R95: the announcement's term is included: its player is PLAYING for a HELD position. -/
def announceIn (m : MixRec) (bus : FrameBus) (p : Pos) : Option Nat :=
  if m.copies.callState = .held then ((servedBy bus p .announce).filter PlayerOut.playing).map PlayerOut.level else none

/-- R95: the target of the music term of player `k`. -/
def musicTarget (m : MixRec) (bus : FrameBus) (p : Pos) (k : PlayerNo) : Nat :=
  let level := if subscribedTo bus p k then ((musicFrame bus k).map PlayerOut.level).getD 0 else 0
  match m.copies.callState with
  | .held => if (announceIn m bus p).isSome then 0 else level
  | .preconnect => level
  | .talk | .idle => 0

/-- R94: the samples of the music term of player `k`: "A position subscribed to no player has a music term of zero
samples." A player the position has just left, whose term ramps out (R95), carries its frame while it serves some position, and
else zeros (assumption 44). -/
def musicSamples (bus : FrameBus) (p : Pos) (k : PlayerNo) : List Int :=
  if allPlayers.any (subscribedTo bus p) then samplesOr (musicFrame bus k) else List.replicate 64 0

/-- R95: the target of the agent voice. -/
def MixRec.agentTarget (m : MixRec) : Nat :=
  if m.copies.callState = .talk then (if m.copies.mute then 0 else m.copies.sendLevel) else 0

/-- R95: the target of the coach voice toward the customer. -/
def sendCoachTarget (m : MixRec) (co : Option CoachOut) : Nat :=
  match co with
  | some o => if modeInEffect m.copies.callState o.mode = some .barge then o.level else 0
  | none => 0

/-- R93, R95: the terms of the send mix. A coach source or an announcement that comes in place of another between two
boundaries takes on the gain of its position's term (assumption 53). -/
def sendTerms (m : MixRec) (bus : FrameBus) (p : Pos) (w : List Int) : List Term :=
  let co := coachOf bus p
  [{ samples := w, gain := m.sendAgent, target := m.agentTarget },
   { samples := (co.map CoachOut.voice).getD [], gain := m.sendCoach, target := sendCoachTarget m co },
   { samples := samplesOr (servedBy bus p .announce), gain := m.sendAnnounce, target := (announceIn m bus p).getD 0 }]
  ++ allPlayers.map (fun k =>
    { samples := musicSamples bus p k, gain := look m.sendMusic k, target := musicTarget m bus p k })

/-- R96: the frame of the send mix. -/
def sendFrame (ts : List Term) : List Int := (List.range 64).map (fun i => mixSample (sumTerms ts i))

/-! ### The ear mix (R97 to R99) -/

/-- R97: the target of the customer in the ears. -/
def MixRec.customerTarget (m : MixRec) : Nat := if m.copies.callState = .talk then m.copies.earLevel else 0

/-- R97: the target of the connect whisper, whose player serves the position from its grant on (assumption 50). -/
def connectTarget (m : MixRec) (bus : FrameBus) (p : Pos) : Nat :=
  if m.copies.callState = .preconnect then ((servedBy bus p .connect).map PlayerOut.level).getD 0 else 0

/-- R97: the target of the recorded whisper, whose player serves the position from its grant on (assumption 50). -/
def recordedTarget (m : MixRec) (bus : FrameBus) (p : Pos) : Nat :=
  if m.copies.callState = .talk ∨ m.copies.callState = .held then
    ((servedBy bus p .recorded).map PlayerOut.level).getD 0
  else 0

/-- R97: the target of the coach voice in the ears. -/
def earCoachTarget (m : MixRec) (co : Option CoachOut) : Nat :=
  match co with
  | some o => if (modeInEffect m.copies.callState o.mode).isSome then o.level else 0
  | none => 0

/-- R99: where the coach voice stands: by the mode in effect, and while its term ramps out where it last stood
(assumption 9). -/
def placeOf (m : MixRec) (co : Option CoachOut) : CoachPlace :=
  match co.bind (fun o => modeInEffect m.copies.callState o.mode) with
  | some .coach => .whisperEar
  | some .barge => .bothEars
  | _ => m.coachPlace

/-- R98: a whisper source is active in the frame. -/
def sourceActive (m : MixRec) (bus : FrameBus) (p : Pos) : Bool :=
  (servedBy bus p .connect).any PlayerOut.playing || (servedBy bus p .recorded).any PlayerOut.playing
    || (coachOf bus p).any (fun o => o.active && decide (modeInEffect m.copies.callState o.mode = some .coach))

/-- R98: the target of the duck weight. -/
def duckTarget (m : MixRec) (bus : FrameBus) (p : Pos) : Nat :=
  if sourceActive m bus p then m.copies.duckDepth else 16384

/-- The terms of the ear mix, with the two samples the customer's multiplier needs. -/
structure EarTerms where
  customer : Term
  duck : Term
  whispers : List Term
  coach : Term
  place : CoachPlace
  deriving DecidableEq, Repr

/-- R93, R97, R98: the terms of the ear mix. A coach source or a whisper that comes in place of another between two boundaries
takes on the gain of its position's term (assumption 53). -/
def earTerms (m : MixRec) (bus : FrameBus) (p : Pos) (customer : List Int) : EarTerms :=
  let co := coachOf bus p
  { customer := { samples := customer, gain := m.earCustomer, target := m.customerTarget }
    duck := { samples := [], gain := m.duck, target := duckTarget m bus p }
    whispers :=
      [{ samples := samplesOr (servedBy bus p .connect), gain := m.earConnect, target := connectTarget m bus p },
       { samples := samplesOr (servedBy bus p .recorded), gain := m.earRecorded, target := recordedTarget m bus p }]
    coach := { samples := (co.map CoachOut.voice).getD [], gain := m.earCoach, target := earCoachTarget m co }
    place := placeOf m co }

/-- R98: the customer's product in the ducked ear. -/
def EarTerms.ducked (t : EarTerms) (i : Nat) : Int :=
  t.customer.samples.getD i 0
    * roundDiv (ramp t.customer.gain t.customer.target i * ramp t.duck.gain t.duck.target i) 16384

/-- R99: the sample of the ear that carries the whispers. -/
def EarTerms.whisperEar (t : EarTerms) (i : Nat) : Int :=
  mixSample (t.ducked i + sumTerms (t.coach :: t.whispers) i)

/-- R99: the sample of the other ear of a two-lane link. -/
def EarTerms.otherEar (t : EarTerms) (i : Nat) : Int :=
  mixSample (t.customer.at i + (if t.place = .bothEars then t.coach.at i else 0))

/-- R99: the frames of ear_0 and ear_1. -/
def EarTerms.frames (t : EarTerms) (lanes : Nat) (ear : Ear) : List Int × List Int :=
  let near := (List.range 64).map t.whisperEar
  if lanes = 2 then
    let far := (List.range 64).map t.otherEar
    match ear with
    | .left => (near, far)
    | .right => (far, near)
  else (near, List.replicate 64 0)

/-- R61: the ear reference of a frame. -/
def earReference (active : Bool) (lanes : Nat) (ears : List Int × List Int) : List Int :=
  if active then
    if lanes = 2 then List.zipWith (fun a b => (a + b) / 2) ears.1 ears.2 else ears.1
  else List.replicate 64 0

/-! ### The frame of a position -/

/-- R93: the gains take their targets, at the boundary that computes the frame; a loss of sync that cuts the frame short leaves
them there (assumption 55). -/
def MixRec.after (m : MixRec) (bus : FrameBus) (p : Pos) (t : EarTerms) : MixRec :=
  { m with
    sendAgent := m.agentTarget
    sendCoach := sendCoachTarget m (coachOf bus p)
    sendAnnounce := (announceIn m bus p).getD 0
    sendMusic := table (fun k => musicTarget m bus p k)
    earCustomer := t.customer.target
    earConnect := connectTarget m bus p
    earRecorded := recordedTarget m bus p
    earCoach := t.coach.target
    duck := t.duck.target
    coachPlace := t.place }

/-- R100: the monitor frame of a source attached to the position. -/
def monitorFrame (customer v : List Int) : List Int := List.zipWith (fun a b => sat16 (a + b)) customer v

/-- R100: the monitor frames of the sources whose coach frame was handed for the position, though a source attach or detach after
COACH_FRAME and before MIX_FRAME (assumption 56). -/
def putMonitors (p : Pos) (xs : List Int) (bus : FrameBus) : FrameBus :=
  { bus with
    monitorOut := table (fun c =>
      if (look bus.coachOut c).any (fun o => decide (o.position = p)) then some xs else look bus.monitorOut c) }

/-- Section 5.8: one position's frame. -/
def mixPosition (p : Pos) (s : State) : State :=
  let x := (look s.bus.echoOut p).getD .missing
  let mic := look s.bus.mics p
  let sf := (look s.supp p).frame mic.whole x
  let m := look s.mix p
  let send := sendFrame (sendTerms m s.bus p sf.w)
  let et := earTerms m s.bus p x.customer
  let ears := et.frames m.lanes m.copies.whisperEar
  let bus := putMonitors p (monitorFrame x.customer sf.v) s.bus
  let s := (s.modSupp p (fun _ => sf.after)).modMix p (fun _ => m.after s.bus p et)
  let s :=
    { s with bus := { bus with sendOut := put bus.sendOut p (some send), earOut := put bus.earOut p (some ears) } }
  appendReference ⟨p, .acoustic⟩ (earReference mic.active m.lanes ears) (appendReference ⟨p, .line⟩ send s)

/-- R84: the block works on no frame of a position whose bound flag is clear. -/
def mixFrameAt (p : Pos) (s : State) : State := if (look s.supp p).bound then mixPosition p s else s

/-- R85: the floor that a presence-lost notice has marked. -/
def SuppRec.markedReset (r : SuppRec) : SuppRec :=
  if r.floorReset then { r with noiseFloor := 0, floorReset := false } else r

/-- R92, R100: before the positions are processed: no send or ear mix, and zeros on every monitor. -/
def FrameBus.clearMixes (b : FrameBus) : FrameBus :=
  { b with
    mixDue := false
    sendOut := Vector.replicate 16 none
    earOut := Vector.replicate 16 none
    monitorOut := Vector.replicate 4 (some (List.replicate 64 0)) }

/-- R84: the suppressor and mixer takes its frame boundary. -/
def mixFrame (s : State) : State :=
  let s := { s with bus := s.bus.clearMixes, supp := table (fun p => (look s.supp p).markedReset) }
  allPos.foldl (fun s p => mixFrameAt p s) s

/-- R29: the mixer works on the outputs that the echo unit, the coach unit and the player unit produced for the same
frame. -/
def FrameBus.mixReady (b : FrameBus) : Bool := b.mixDue && !b.echoDue && !b.coachDue && !b.playerDue

/-! ### Meanings -/

/-- R85: the suppressor record as a call starts. -/
def SuppRec.callStarts (p : Pos) (r : SuppRec) : SuppRec :=
  { r with bound := true, cnRegister := BitVec.ofNat 16 (4096 + p.val), gain := 16384, nlpEngaged := false }

/-- R93: the mix state as a call starts: the copies and the lanes stay. -/
def MixRec.callStarts (m : MixRec) : MixRec := { MixRec.reset with copies := m.copies, lanes := m.lanes }

/-- SUPP_CALL_STARTED (R85, R93). -/
def execSuppCallStarted (p : Pos) (s : State) : Host.Outcome State Fault Refusal :=
  match s.takeNotice (.record p) .supp with
  | some (.callStarted _ _, s') => .next ((s'.modSupp p (SuppRec.callStarts p)).modMix p MixRec.callStarts)
  | _ => .next s

/-- SUPP_CALL_ENDED (R85). -/
def execSuppCallEnded (p : Pos) (s : State) : Host.Outcome State Fault Refusal :=
  match s.takeNotice (.record p) .supp with
  | some (.callEnded, s') => .next (s'.modSupp p (fun r => { r with bound := false }))
  | _ => .next s

/-- SUPP_PRESENCE_LOST (R85). -/
def execSuppPresenceLost (p : Pos) (s : State) : Host.Outcome State Fault Refusal :=
  match s.takeNotice (.link p) .supp with
  | some (.presenceLost, s') => .next (s'.modSupp p (fun r => { r with floorReset := true }))
  | _ => .next s

/-- LANES_NOTICE (R92, R99). -/
def execLanesNotice (p : Pos) (s : State) : Host.Outcome State Fault Refusal :=
  match s.takeNotice (.link p) .supp with
  | some (.lanes n, s') => .next (s'.modMix p (fun m => { m with lanes := n }))
  | _ => .next s

/-- MIX_STATE_CHANGE (R92). -/
def execMixStateChange (p : Pos) (s : State) : Host.Outcome State Fault Refusal :=
  match s.takeNotice (.record p) .supp with
  | some (.mixState c, s') => .next (s'.modMix p (fun m => { m with copies := c }))
  | _ => .next s

/-- MIX_FRAME (R84). -/
def execMixFrame (s : State) : Host.Outcome State Fault Refusal :=
  if s.bus.mixReady then .next (mixFrame s) else .next s

/-! ### SET_SUPPRESSOR (R91) -/

/-- R91: an accepted SET_SUPPRESSOR. -/
def suppressorEffect (p : Pos) (alphaQ gMin : Option Nat) (nlp : Option Bool) (s : State) : State :=
  s.modSupp p (fun r =>
    { r with alphaQ := alphaQ.getD r.alphaQ, gMin := gMin.getD r.gMin, nlp := nlp.getD r.nlp })

/-- R91: the answer of SET_SUPPRESSOR. -/
def SuppRec.report (r : SuppRec) : List Byte :=
  out8 r.alphaQ ++ out16 r.gMin ++ outBool r.nlp ++ out32 r.noiseFloor ++ out16 r.gain ++ outBool r.nlpEngaged

/-- SET_SUPPRESSOR (R91). -/
def setSuppressor (port : PortId) (slot : ReqSlot) (a : SetSuppressorArgs) (s : State) : State :=
  match index? 16 a.position, optWith (within 4 16) a.alphaQ, optWith (within 0 16384) a.gMin, optWith onOff? a.nlp with
  | some p, some alphaQ, some gMin, some nlp =>
    let s := suppressorEffect p alphaQ gMin nlp s
    s.respond port slot .ok (look s.supp p).report
  | _, _, _, _ => s.respond port slot .range []

/-- SET_SUPPRESSOR (R91). -/
def execSetSuppressor (port : PortId) (slot : ReqSlot) (s : State) : Host.Outcome State Fault Refusal :=
  .next (s.serve port slot .setSuppressor (fun b s =>
    match parseSetSuppressor b with
    | some a => setSuppressor port slot a s
    | none => s.respond port slot .range []))

end Sys2Proof.Machine
end

