-- ==== Sys2Proof/Machine/StoreOps.lean ====
section
/-!
DEFINITION. What the store controller does whole (chapters 9 and 10): the sector map, the job queue and what joins it, the
erase list, references and the deferred erase, the end of a load, and entry to FAULT.
-/

namespace Sys2Proof.Machine

/-! ### The sector map and the catalogue -/

/-- The sectors that satisfy a test take a state. -/
def markSectors (p : Nat → Bool) (x : SectorState) (t : Table 4096 SectorState) : Table 4096 SectorState :=
  table (fun i => if p i.val then x else look t i)

/-- `n` is one of the `count` sectors from `first` on. -/
def inRun (first count n : Nat) : Bool := decide (first ≤ n ∧ n < first + count)

/-- The state of a sector. -/
def Store.sector (st : Store) (n : Nat) : SectorState :=
  match index? 4096 n with
  | some i => look st.sectors i
  | none => .free

/-- R153: the sectors of a catalogue entry: those ALLOCATED to its id in the run that begins at its first sector. -/
def Store.entrySectors (st : Store) (e : Entry) : List Nat :=
  ((List.range e.reserved).map (fun k => e.first + k)).filter (fun n => decide (st.sector n = .allocated e.id))

/-- R154: an entry put in its place, in ascending order of id. -/
def insertEntry (e : Entry) : List Entry → List Entry
  | [] => [e]
  | x :: xs => if e.id < x.id then e :: x :: xs else x :: insertEntry e xs

/-- The store controller's sectors changed. -/
def State.setSectors (s : State) (p : Nat → Bool) (x : SectorState) : State :=
  s.modStore (fun st => { st with sectors := markSectors p x st.sectors })

/-! ### The job queue (R162, R165, R175) -/

/-- R162: the job queue has room: it holds at most 16 jobs. -/
def State.jobRoom (s : State) : Bool := decide (s.arbiter.jobs.length < 16)

/-- R162: a job joins the queue. -/
def State.queueJob (s : State) (j : Job) : State := s.modArbiter (fun a => { a with jobs := a.jobs ++ [j] })

/-- The job is an ERASE. -/
def Job.isErase : Job → Bool
  | .erase _ => true
  | .program .. => false

/-- R173: the flash address of audio byte `o` of the session's prompt. -/
def Session.address (x : Session) (o : Nat) : Nat := x.first * 4096 + 64 + o

/-- R173: the staging place of audio offset `o`. -/
def stagingPlace (o : Nat) : Nat := (64 + o) % 256

/-- R173: the first staging place of the page that the audio offset `o` lies in: audio begins at byte 64 of the first
page. -/
def pageStart (o : Nat) : Nat := if 64 + o < 256 then 64 else 0

/-- R175, step 1: the staging page holds loaded bytes. -/
def Session.pageHeld (x : Session) : Bool := decide (x.cursor ≠ 0 ∧ stagingPlace x.cursor ≠ 0)

/-- R175, step 1: the PAGE program. -/
def Session.pageJob (x : Session) : Job :=
  let from_ := pageStart x.cursor
  .program (x.address x.cursor / 256 * 256 + from_) ((x.staging.take (stagingPlace x.cursor)).drop from_)
    (.commit x.id .page)

/-- R156, R175, step 2: bytes 4–46 of the header. -/
def CommitFields.bytes (f : CommitFields) : List Byte :=
  let label := f.label.getD []
  bigEndian 3 f.length ++ bigEndian 2 f.final ++ bigEndian 2 f.level ++ bigEndian 3 (f.loopPoint.getD 0xFFFFFF)
    ++ byte label.length :: fitTo 32 0xFF label

/-- R175: the program of a commit step. -/
def Session.stepJob (x : Session) : CommitStep → Job
  | .page => x.pageJob
  | .fields =>
    .program (x.first * 4096 + 4) ((x.commit.map CommitFields.bytes).getD []) (.commit x.id .fields)
  | .marker => .program (x.first * 4096) [0x3F] (.commit x.id .marker)

/-- R177: the marker job of a failed load takes a free place. -/
def pumpOwed (s : State) : State :=
  match s.store.owedMarker with
  | none => s
  | some j => if s.jobRoom then (s.queueJob j).modStore (fun st => { st with owedMarker := none }) else s

/-- R175: the commit step whose turn has come takes a free place. -/
def pumpStep (s : State) : State :=
  match s.store.session with
  | none => s
  | some x =>
    match x.nextStep with
    | none => s
    | some k =>
      if s.jobRoom = true ∧ x.headerPending = false then
        (s.queueJob (x.stepJob k)).modStore (fun st =>
          { st with session := some { x with commitStep := some k, nextStep := none } })
      else s

/-- R165: the next sector of the head run. -/
def State.nextErase (s : State) : Option Nat := s.store.eraseList.head?.bind (fun r => r.todo.head?)

/-- R165: the next sector of the head run becomes an ERASE job, when none is queued or in progress. -/
def pumpErase (s : State) : State :=
  if s.jobRoom = true ∧ s.arbiter.erase = none ∧ s.arbiter.jobs.any Job.isErase = false then
    match s.nextErase with
    | some n => s.queueJob (.erase n)
    | none => s
  else s

/-- R165, R175, R177: what waits for a place in the job queue takes the places that are free: a marker job first, then a
commit step, then the erase list. -/
def pump (s : State) : State := pumpErase (pumpStep (pumpOwed s))

/-! ### The erase list (R165, R168, R169) -/

/-- R165, R169: a run is finished: every erased sector of it becomes FREE, and a retirement raises RETIRE_DONE. -/
def finishRun (r : Run) (s : State) : State :=
  let s := s.setSectors (fun n => r.erased.contains n) .free
  match r.mark, r.id with
  | some m, some id => s.raise .store (.retireDone id r.erased.length r.bad m)
  | _, _ => s

/-- R165: a run joins at the tail of the erase list, its sectors becoming ERASING. A run of no sectors is finished as it
joins (assumption 20). -/
def joinErase (r : Run) (s : State) : State :=
  let s := s.setSectors (fun n => r.todo.contains n) .erasing
  if r.todo = [] then finishRun r s else s.modStore (fun st => { st with eraseList := st.eraseList ++ [r] })

/-- R168: a RETIRING entry may be erased. -/
def Entry.mayErase (e : Entry) : Bool :=
  decide (e.state = .retiring ∧ e.retireAcked = true ∧ e.playerRefs = 0 ∧ e.queueRefs = 0) &&
    (e.mark == some .done || e.mark == some .failed)

/-- R168: the run of an entry: with mark DONE from its highest sector downward, with mark FAILED upward. -/
def Store.eraseRun (st : Store) (e : Entry) : Run :=
  let sectors := st.entrySectors e
  { todo := if e.mark = some .failed then sectors else sectors.reverse, erased := [], bad := 0, id := some e.id,
    mark := e.mark }

/-- R168: the deferred erase of an entry, if all conditions hold, in FAULT too (assumption 51). -/
def maybeErase (id : Nat) (s : State) : State :=
  match s.entry? id with
  | none => s
  | some e =>
    if e.mayErase then
      let s := joinErase (s.store.eraseRun e) s
      pump (s.modStore (fun st => { st with catalogue := st.catalogue.filter (fun x => decide (x.id ≠ id)) }))
    else s

/-! ### References (R166, R167) -/

/-- R166: the store controller takes a grant's take-up. -/
def storeTakesUp (prompt : Nat) (s : State) : State :=
  s.modEntry prompt (fun e => if e.state = .writing then e else { e with playerRefs := e.playerRefs + 1 })

/-- R166: the store controller takes a let-go. -/
def storeLetsGo (music : Bool) (prompt : Nat) (s : State) : State :=
  maybeErase prompt (s.modEntry prompt (fun e =>
    { e with playerRefs := e.playerRefs - 1, musicRefs := if music then e.musicRefs - 1 else e.musicRefs }))

/-- The store controller takes a notice of the player unit (R166, R167). -/
def storeTakes (t : Tidings) (s : State) : State :=
  match t with
  | .takeUp _ prompt => storeTakesUp prompt s
  | .letGo _ music prompt => storeLetsGo music prompt s
  | .entryJoined prompt => s.modEntry prompt (fun e => { e with queueRefs := e.queueRefs + 1 })
  | .entryLeft prompt => maybeErase prompt (s.modEntry prompt (fun e => { e with queueRefs := e.queueRefs - 1 }))
  | .retireAck prompt => maybeErase prompt (s.modEntry prompt (fun e => { e with retireAcked := true }))
  | _ => s

/-- R166: the refusal of a SET_MUSIC claim, or the entry it takes up. -/
def musicClaim (prompt : Nat) (s : State) : Except Status Entry :=
  match s.storeRefusal with
  | some st => .error st
  | none =>
    match s.entry? prompt with
    | none => .error .noPrompt
    | some e =>
      if e.state ≠ .valid then .error .noPrompt
      else if e.length.getD 0 = 0 then .error .range
      else .ok e

/-- R166: an accepted claim: both counts rise by 1. -/
def musicTakeUp (prompt : Nat) (s : State) : State :=
  s.modEntry prompt (fun e => { e with playerRefs := e.playerRefs + 1, musicRefs := e.musicRefs + 1 })

/-! ### The end of a load (R177) and FAULT (R161) -/

/-- R167, steps 1 and 2, R177: the WRITING entry of an ended session is RETIRING, its acknowledgement set at once. -/
def Entry.retireWriting (e : Entry) : Entry := { e with state := .retiring, mark := some .pending, retireAcked := true }

/-- R177: the marker job of a failed load; its value is fixed as the session ends (assumption 52). -/
def Session.failMarker (x : Session) (st : Store) : Job :=
  .program (x.first * 4096) [if st.sector x.first = .allocated x.id then 0x1F else 0x00] (.marker x.id)

/-- R177: a session ends without a commit, in every case but STORE_FAULT. The marker's value is fixed here, even where its job
has still to wait for a place (assumption 52). -/
def failLoad (x : Session) (cause : LoadCause) (sector : Option Nat) (s : State) : State :=
  let s := s.raise .store (.loadFailed x.id cause x.cursor sector)
  let s := (s.modStore (fun st => { st with session := none })).modEntry x.id Entry.retireWriting
  pump (s.modStore (fun st => { st with owedMarker := some (x.failMarker st) }))

/-- The reads of ports that wait, oldest first. -/
def portReads (rs : List ReadReq) : List (PortId × ReqSlot) :=
  rs.filterMap (fun r =>
    match r with
    | .port port slot _ _ => some (port, slot)
    | .scanHeader _ => none
    | .scanWhole _ => none)

/-- R177, STORE_FAULT: the session ends as R161 gives. -/
def faultEndsLoad (s : State) : State :=
  match s.store.session with
  | none => s
  | some x =>
    (s.raise .store (.loadFailed x.id .storeFault x.cursor none)).modStore (fun st => { st with session := none })

/-- R161, R179: entry to FAULT. The queue is emptied, and a marker job that waited for a place in it is dropped (assumption 57). -/
def enterFault (cause : FaultCause) (s : State) : State :=
  let s := s.modStore (fun st => { st with state := .fault, cause := some cause })
  let s := s.raise .store (.flashTimeout cause)
  let reads := portReads s.arbiter.reads
  let s := s.modArbiter (fun a => { a with jobs := [], reads := [], recovering := none })
  let s := s.modStore (fun st => { st with eraseList := [], owedMarker := none, scan := .reset })
  let s := faultEndsLoad s
  let s := s.tell .store .player .storeFault
  reads.foldl (fun s r => s.modPort r.1 (fun x => x.answerRead r.2 .storeFault [])) s

end Sys2Proof.Machine
end

