-- ==== Sys2Proof/Machine/Players.lean ====
section
/-!
DEFINITION. The player unit (chapter 8, and R104 to R110, R127 to R129): the log-8 byte, the frame of a player, the
allocator and its queue, and the meanings of SET_MUSIC to RELEASE_MUSIC, QUERY_PLAYER and WHISPER_REQUEST to
CONNECT_WAIT_LIMIT.
-/

namespace Sys2Proof.Machine

/-! ### The log-8 byte (R136) -/

/-- R136: the magnitude of a log-8 byte of segment `s` and mantissa `m`. -/
def logMagnitude (s m : Nat) : Nat := if s = 0 then m * 16 else (16 + m) * 2 ^ (s + 3)

/-- R136: the sample of a log-8 byte. -/
def logSample (b : Byte) : Int :=
  let x : Int := logMagnitude (b.extractLsb' 4 3).toNat (b.extractLsb' 0 4).toNat
  if b.msb then -x else x

/-! ### Events and notices of one-shots (R106, R109, R129) -/

/-- The event of an assignment that ends (R106, R127). -/
def oneShotEnded (a : Assignment) (prompt : Nat) (cause : EndCause) (played : Nat) : Event :=
  match a.kind with
  | .announce => .announceEnded a.position a.serial prompt cause played
  | k => .whisperEnded a.position a.serial k prompt cause played

/-- The event of a one-shot dropped before its grant (R105, R124). -/
def oneShotSkipped (e : QueueEntry) (cause : SkipCause) : Event :=
  match e.kind with
  | .announce => .announceSkipped e.position e.serial (some e.prompt) cause none
  | k => .whisperSkipped e.position e.serial k e.prompt cause e.waited

/-- The notice that a one-shot has ended (R103, R130). -/
def overNotice (kind : OneShot) (serial number : Byte) (outcome : WhisperOutcome) : Tidings :=
  match kind with
  | .announce => .announceOver serial number
  | _ => .whisperOver serial number outcome

/-- The GRANTED notice (R103, R130). -/
def grantedNotice (kind : OneShot) (serial number : Byte) (k : PlayerNo) : Tidings :=
  match kind with
  | .announce => .announceGranted serial number k
  | _ => .whisperGranted serial number k

/-! ### Changes of a player -/

/-- R137: an outstanding fetch becomes STALE. -/
def FetchState.staled : FetchState → FetchState
  | .none => .none
  | .live => .stale
  | .stale => .stale

/-- R166: the player unit tells the store controller that a player lets go of the prompt it holds. -/
def letGo (k : PlayerNo) (s : State) : State :=
  match (s.player k).prompt with
  | none => s
  | some prompt => s.tell .player .store (.letGo k (decide ((s.player k).role = .music)) prompt)

/-- R147: the record of a released player. -/
def Player.released (x : Player) : Player :=
  { x with role := .pool, state := .idle, prompt := none, fetch := x.fetch.staled, buffer := [], assignment := none }

/-- R147: a player is released from its one-shot. -/
def releasePlayer (k : PlayerNo) (s : State) : State := (letGo k s).modPlayer k Player.released

/-- R141: the record of a stopped MUSIC player. -/
def Player.stopped (x : Player) : Player :=
  { x with state := .idle, prompt := none, fetch := x.fetch.staled, buffer := [], cursor := 0, fetchOffset := 0,
           underrunEpisode := false }

/-- R141: a MUSIC player stops; an IDLE one stays as it is. -/
def stopPlayer (k : PlayerNo) (s : State) : State :=
  if (s.player k).state = .idle then s else (letGo k s).modPlayer k Player.stopped

/-- R137, R140, R146: a player takes up a prompt: what it reads of the catalogue entry, and the fields it starts from. -/
def Player.takesUp (e : Entry) (level : Nat) (x : Player) : Player :=
  { x with
    state := .priming, prompt := some e.id, cursor := 0, fetchOffset := 0, level := level, buffer := [],
    fetch := x.fetch.staled, underrunEpisode := false, length := e.length.getD 0, firstSector := e.first,
    loopPoint := e.loopPoint }

/-! ### The allocator (R144 to R148) -/

/-- R144: the rank of a class in the queue. -/
def OneShot.rank : OneShot → Nat
  | .connect => 0
  | .recorded => 1
  | .announce => 2

/-- R144: a joining entry goes behind the last entry of its class. -/
def joinQueue (e : QueueEntry) : List QueueEntry → List QueueEntry
  | [] => [e]
  | x :: xs => if e.kind.rank < x.kind.rank then e :: x :: xs else x :: joinQueue e xs

/-- The wait queue changed. -/
def State.setQueue (s : State) (q : List QueueEntry) : State :=
  { s with playerUnit := { s.playerUnit with queue := q } }

/-- R145, R150: the allocator holds the prompt VALID. -/
def State.playable (s : State) (prompt : Nat) : Bool := !s.playerUnit.fault && s.promptValid prompt

/-- R146: a POOL player that is IDLE. -/
def Player.idlePool (x : Player) : Bool := decide (x.role = .pool ∧ x.state = .idle)

/-- R146: the lowest-numbered IDLE POOL player. -/
def State.freePlayer (s : State) : Option PlayerNo := allPlayers.find? (fun k => (s.player k).idlePool)

/-- R146: the one-shot a granted player serves. -/
def QueueEntry.assignment (e : QueueEntry) : Assignment :=
  { position := e.position, serial := e.serial, kind := e.kind, number := e.number }

/-- R146, step 2: the granted player. -/
def grantPlayer (k : PlayerNo) (e : QueueEntry) (s : State) : State :=
  match s.entry? e.prompt with
  | none => s
  | some c =>
    let s := s.modPlayer k (fun x =>
      { x.takesUp c (c.level.getD 0) with assignment := some e.assignment, playedFrames := 0 })
    s.tell .player .store (.takeUp k e.prompt)

/-- R103, R130: the GRANTED notice of an entry. -/
def tellGranted (k : PlayerNo) (e : QueueEntry) (s : State) : State :=
  s.tell .player (.record e.position) (grantedNotice e.kind e.serial e.number k)

/-- R146: the head of the queue, if there is one, is granted to player `k`. The take-up goes before the notice that the
entry has left the queue (R166). -/
def grantHead (k : PlayerNo) (s : State) : State :=
  match s.playerUnit.queue with
  | [] => s
  | e :: q => tellGranted k e ((grantPlayer k e (s.setQueue q)).tell .player .store (.entryLeft e.prompt))

/-- R146: the allocator grants while a POOL player is IDLE and the queue holds an entry, the lowest-numbered player
first. -/
def grantAll (s : State) : State :=
  allPlayers.foldl (fun s k => if (s.player k).idlePool then grantHead k s else s) s

/-- R105, R128: a one-shot is skipped: its event and its notice. -/
def skipEntry (e : QueueEntry) (cause : SkipCause) (s : State) : State :=
  (s.raise .player (oneShotSkipped e cause)).tell .player (.record e.position)
    (overNotice e.kind e.serial e.number .skipped)

/-- R145: the allocator takes a request. -/
def takeRequest (e : QueueEntry) (s : State) : State :=
  if s.playable e.prompt then
    match s.freePlayer with
    | some k => tellGranted k e (grantPlayer k e s)
    | none =>
      if e.kind = .connect ∧ e.waitLimit = 0 then skipEntry e .waitLimit s
      else (s.setQueue (joinQueue e s.playerUnit.queue)).tell .player .store (.entryJoined e.prompt)
  else skipEntry e .noPrompt s

/-- R148, R149: the entries that satisfy a test leave the queue; for each, in queue order, `f` is applied and the store
controller told. -/
def dropEntries (p : QueueEntry → Bool) (f : QueueEntry → State → State) (s : State) : State :=
  (s.playerUnit.queue.filter p).foldl (fun s e => (f e s).tell .player .store (.entryLeft e.prompt))
    (s.setQueue (s.playerUnit.queue.filter (fun e => !p e)))

/-- R147: the one-shot of player `k` ends with an event, and the player is released. -/
def endAssigned (k : PlayerNo) (cause : EndCause) (s : State) : State :=
  match (s.player k).assignment with
  | none => s
  | some a =>
    releasePlayer k
      (s.raise .player (oneShotEnded a ((s.player k).prompt.getD 0) cause (s.player k).playedFrames))

/-- R148: an entry that waits ends with played_frames 0. -/
def endWaiting (cause : EndCause) (e : QueueEntry) (s : State) : State :=
  s.raise .player (oneShotEnded e.assignment e.prompt cause 0)

/-- R109, R127, R147, R148: the one-shots that satisfy a test end, waiting or assigned, and the players that come free are
granted. The entries that wait come first, in queue order, and then the players in ascending order (assumption 43). -/
def endOneShots (p : Assignment → Bool) (cause : EndCause) (s : State) : State :=
  let s := dropEntries (fun e => p e.assignment) (endWaiting cause) s
  let s := allPlayers.foldl (fun s k => if (s.player k).assignment.any p then endAssigned k cause s else s) s
  grantAll s

/-! ### Fetches (R137) -/

/-- R137: the loop point in use. -/
def Player.loopStart (x : Player) : Nat :=
  match x.loopPoint with
  | some n => if n < x.length then n else 0
  | none => 0

/-- R137: the player asks for a fetch at stage 4, if it is not one that began priming at this boundary. -/
def Player.asksFetch (x : Player) : Bool :=
  decide (x.state ≠ .idle ∧ x.buffer.length ≤ 256 ∧ x.fetch = .none) &&
    (decide (x.role = .music) || decide (x.fetchOffset < x.length))

/-- R137: how many bytes the next fetch asks for. -/
def Player.fetchCount (x : Player) : Nat := min 256 (x.length - x.fetchOffset)

/-- R137: the player once its fetch is asked for. -/
def Player.afterAsk (x : Player) : Player :=
  let o := x.fetchOffset + x.fetchCount
  { x with fetch := .live, fetchOffset := if x.role = .music ∧ x.length ≤ o then x.loopStart else o }

/-- R137: player `k` asks the arbiter for its next fetch. -/
def askFetch (k : PlayerNo) (s : State) : State :=
  let x := s.player k
  let r : FetchReq := { player := k, addr := x.firstSector * 4096 + 64 + x.fetchOffset, count := x.fetchCount }
  (s.modArbiter (fun a => { a with fetches := a.fetches ++ [r] })).modPlayer k Player.afterAsk

/-! ### The frame of a player (R138, R139) -/

/-- R138: a PRIMING player leaves priming at this boundary. -/
def Player.primed (x : Player) : Bool :=
  decide (x.state = .priming) &&
    (decide (256 ≤ x.buffer.length) ||
      (x.assignment.isSome && decide (x.length - x.cursor ≤ x.buffer.length)))

/-- R138: a one-shot with no bytes that remain ends instead of turning PLAYING. -/
def Player.endsUnplayed (x : Player) : Bool := x.primed && x.assignment.isSome && decide (x.length ≤ x.cursor)

/-- R138: the player turns PLAYING; it reads the whisper limit, here in frames (R106). -/
def Player.turned (limit : Nat) (x : Player) : Player := { x with state := .playing, limitFrames := limit }

/-- R139: the bytes a PLAYING player needs for its frame. -/
def Player.needed (x : Player) : Nat :=
  if x.assignment.isSome then min 64 (x.length - x.cursor) else 64

/-- R139: the cursor of a loop advanced by one. -/
def Player.loopCursor (x : Player) (c : Nat) : Nat := if c + 1 = x.length then x.loopStart else c + 1

/-- R139: the cursor advanced by so many bytes. -/
def Player.advance (x : Player) (n : Nat) : Nat :=
  if x.assignment.isSome then x.cursor + n else Nat.repeat x.loopCursor n x.cursor

/-- R139: the bytes that are missing of the frame. -/
def Player.missing (x : Player) : Nat := x.needed - x.buffer.length

/-- R139: the samples of a PLAYING player's frame. -/
def Player.frame (x : Player) : List Int := fitTo 64 0 ((x.buffer.take x.needed).map logSample)

/-- R139: the player after its frame. played_frames saturates at the top of its range (assumption 46). -/
def Player.played (x : Player) : Player :=
  let taken := min x.needed x.buffer.length
  { x with
    buffer := x.buffer.drop taken
    cursor := x.advance taken
    playedFrames := if x.assignment.isSome then satSucc 16777215 x.playedFrames else x.playedFrames
    underrunCount := if 0 < x.missing then satSucc 65535 x.underrunCount else x.underrunCount
    underrunEpisode := x.underrunEpisode || decide (0 < x.missing) }

/-- R139: the one-shot's audio is consumed. -/
def Player.consumed (x : Player) : Bool := x.assignment.isSome && decide (x.length ≤ x.cursor)

/-- R106: the whisper has reached its limit. The limit does not apply to an announcement (R129). -/
def Player.limitMet (x : Player) : Bool :=
  x.assignment.any (fun a => decide (a.kind ≠ .announce)) && decide (x.limitFrames ≤ x.playedFrames)

/-- The audio frame that a player which serves a position hands the mixer (R94). -/
def Player.handed (samples : List Int) (playing : Bool) (x : Player) : Option PlayerOut :=
  match x.role, x.assignment with
  | .music, _ =>
    if x.subscribers = [] then none
    else some { samples := samples, level := x.level, playing := playing, subscribers := x.subscribers, served := none }
  | .pool, some a =>
    some { samples := samples, level := x.level, playing := playing, subscribers := [],
           served := some (a.position, a.kind) }
  | .pool, none => none

/-- Hands the mixer the audio frame of player `k`. -/
def handFrame (k : PlayerNo) (samples : List Int) (playing : Bool) (s : State) : State :=
  { s with bus := { s.bus with playerOut := put s.bus.playerOut k ((s.player k).handed samples playing) } }

/-- R106, R129: the limit in frames that a one-shot's player reads as it turns PLAYING. -/
def State.limitFor (s : State) (x : Player) : Nat :=
  match x.assignment with
  | some a => look s.playerUnit.limits a.position * 250
  | none => 0

/-- R106, R129: the event of the turn to PLAYING. -/
def raiseStarted (k : PlayerNo) (s : State) : State :=
  let x := s.player k
  match x.assignment with
  | none => s
  | some a =>
    match a.kind with
    | .announce => s.raise .player (.announceStarted a.position a.serial (x.prompt.getD 0) k)
    | kind => s.raise .player (.whisperStarted a.position a.serial kind (x.prompt.getD 0) k x.limitFrames)

/-- R139: UNDERRUN, for the first underrun frame of an episode; `x` is the player before its frame. -/
def raiseUnderrun (k : PlayerNo) (x : Player) (s : State) : State :=
  if 0 < x.missing ∧ x.underrunEpisode = false then
    s.raise .player
      (.underrun k x.role (x.prompt.getD 0) (x.assignment.map (fun a => (a.position, a.serial, a.kind))) x.missing)
  else s

/-- R147: a one-shot that ends at stage 1: its event, its notice and the release of its player. -/
def endPlayed (k : PlayerNo) (s : State) : State :=
  match (s.player k).assignment with
  | none => s
  | some a =>
    (endAssigned k .reachedEnd s).tell .player (.record a.position) (overNotice a.kind a.serial a.number .ended)

/-- R106: the cut of a whisper at its limit. -/
def cutPlayed (k : PlayerNo) (s : State) : State :=
  let x := s.player k
  match x.assignment with
  | none => s
  | some a =>
    let s := s.raise .player (.whisperCut a.position a.serial a.kind (x.prompt.getD 0) x.playedFrames)
    (releasePlayer k s).tell .player (.record a.position) (overNotice a.kind a.serial a.number .cut)

/-- R139: the frame of a PLAYING player, and the end of a one-shot at it. -/
def playFrame (k : PlayerNo) (s : State) : State :=
  let x := s.player k
  let s := handFrame k x.frame true s
  let s := raiseUnderrun k x (s.modPlayer k Player.played)
  if (s.player k).consumed then endPlayed k s
  else if (s.player k).limitMet then cutPlayed k s
  else s

/-- R138, R139: player `k` at stage 1 of a frame boundary. -/
def produce (k : PlayerNo) (s : State) : State :=
  let x := s.player k
  if x.state = .playing then playFrame k s
  else if x.endsUnplayed then endPlayed k (handFrame k (List.replicate 64 0) false s)
  else if x.primed then playFrame k (raiseStarted k (s.modPlayer k (Player.turned (s.limitFor x))))
  else handFrame k (List.replicate 64 0) false s

/-- R135: stage 1, the players in ascending order (assumption 43). -/
def stageProduce (s : State) : State := allPlayers.foldl (fun s k => produce k s) s

/-- R105: a CONNECT entry whose wait has reached its limit. -/
def QueueEntry.limitMet (e : QueueEntry) : Bool := decide (e.kind = .connect ∧ e.waitLimit * 250 ≤ e.waited)

/-- R105, R135: stage 3: every entry has waited one frame more, and the limits are applied, in queue order (assumption 43).
The count has no upper bound (assumption 59). -/
def stageWait (s : State) : State :=
  let s := s.setQueue (s.playerUnit.queue.map (fun e => { e with waited := e.waited + 1 }))
  dropEntries QueueEntry.limitMet (fun e s => skipEntry e .waitLimit s) s

/-- R135, R137: stage 4; `began` holds the players that began priming at this boundary. -/
def stageFetch (began : List PlayerNo) (s : State) : State :=
  allPlayers.foldl (fun s k => if began.contains k = false ∧ (s.player k).asksFetch = true then askFetch k s else s) s

/-- R135: the players granted at stage 2. -/
def grantedAtStage2 (s : State) : List PlayerNo :=
  allPlayers.filter (fun k => (s.player k).idlePool && !((grantAll s).player k).idlePool)

/-- R94, R135: the audio frames of the players granted at stage 2, which produce silence. -/
def handGranted (began : List PlayerNo) (s : State) : State :=
  began.foldl (fun s k =>
    if (look s.bus.playerOut k).isNone then handFrame k (List.replicate 64 0) false s else s) s

/-- R135: the player unit takes its frame boundary: its four stages. -/
def playerFrame (s : State) : State :=
  let s := { s with bus := { s.bus with playerDue := false, playerOut := Vector.replicate 6 none } }
  let s := stageProduce s
  let began := grantedAtStage2 s
  handGranted began (stageFetch began (stageWait (grantAll s)))

/-- PLAYER_FRAME (R135). -/
def execPlayerFrame (s : State) : Host.Outcome State Fault Refusal :=
  if s.bus.playerDue then .next (playerFrame s) else .next s

/-- R106: player `k` cuts its whisper at the boundary the unit is to take. -/
def cutsAt (k : PlayerNo) (s : State) : Bool :=
  let x := s.player k
  let y := if x.state = .playing then x else x.turned (s.limitFor x)
  (decide (x.state = .playing) || (x.primed && !x.endsUnplayed)) && !y.played.consumed && y.played.limitMet

/-- WHISPER_CUT (R106): the boundary at which the whisper of player `k` meets its limit (assumption 4). -/
def execWhisperCut (k : PlayerNo) (s : State) : Host.Outcome State Fault Refusal :=
  if s.bus.playerDue = true ∧ cutsAt k s = true then .next (playerFrame s) else .next s

/-- R105: a CONNECT entry of position `p` meets its limit at the boundary the unit is to take. -/
def waitsOut (p : Pos) (s : State) : Bool :=
  (grantAll (stageProduce s)).playerUnit.queue.any
    (fun e => decide (e.position = p) && QueueEntry.limitMet { e with waited := e.waited + 1 })

/-- CONNECT_WAIT_LIMIT (R105): the boundary at which the connect whisper of position `p` has waited its limit
(assumption 4). -/
def execConnectWaitLimit (p : Pos) (s : State) : Host.Outcome State Fault Refusal :=
  if s.bus.playerDue = true ∧ waitsOut p s = true then .next (playerFrame s) else .next s

/-! ### Notices of the record (R143, R145, R147, R148) -/

/-- WHISPER_REQUEST (R105, R108, R145). -/
def execWhisperRequest (p : Pos) (s : State) : Host.Outcome State Fault Refusal :=
  match s.takeNotice (.record p) .player with
  | some (.whisperRequest serial number kind prompt limit, s') =>
    .next (takeRequest { kind := kind, position := p, serial := serial, number := number, prompt := prompt,
                         waitLimit := limit, waited := 0 } s')
  | _ => .next s

/-- ANNOUNCE_REQUEST (R128, R145). -/
def execAnnounceRequest (p : Pos) (s : State) : Host.Outcome State Fault Refusal :=
  match s.takeNotice (.record p) .player with
  | some (.announceRequest serial number prompt, s') =>
    .next (takeRequest { kind := .announce, position := p, serial := serial, number := number, prompt := prompt,
                         waitLimit := 0, waited := 0 } s')
  | _ => .next s

/-- WHISPER_CANCEL (R109, R147, R148). -/
def execWhisperCancel (p : Pos) (s : State) : Host.Outcome State Fault Refusal :=
  match s.takeNotice (.record p) .player with
  | some (.whisperCancel serial number kind, s') =>
    .next (endOneShots
      (fun a => decide (a = { position := p, serial := serial, kind := kind, number := number })) .cancelled s')
  | _ => .next s

/-- ANNOUNCE_END (R127, R147, R148). -/
def execAnnounceEnd (p : Pos) (s : State) : Host.Outcome State Fault Refusal :=
  match s.takeNotice (.record p) .player with
  | some (.announceEnd serial number cause, s') =>
    .next (endOneShots
      (fun a => decide (a = { position := p, serial := serial, kind := .announce, number := number })) cause s')
  | _ => .next s

/-- R134: the subscriber set is held in ascending order, each position once. -/
def joinSubscribers (p : Pos) : List Pos → List Pos
  | [] => [p]
  | q :: qs => if p = q then q :: qs else if p.val < q.val then p :: q :: qs else q :: joinSubscribers p qs

/-- R143: a position leaves a player's subscriber set. -/
def dropSubscriber (p : Pos) (x : Player) : Player :=
  { x with subscribers := x.subscribers.filter (fun q => decide (q ≠ p)) }

/-- R143: the player unit takes a subscription. -/
def takeSubscription (p : Pos) (serial : Byte) (k : PlayerNo) (s : State) : State :=
  if (s.player k).role = .music then
    s.modPlayer k (fun x => { x with subscribers := joinSubscribers p x.subscribers })
  else s.tell .player (.record p) (.subscriptionRefused serial k)

/-- SUBSCRIPTION (R143). -/
def execSubscription (p : Pos) (s : State) : Host.Outcome State Fault Refusal :=
  match s.takeNotice (.record p) .player with
  | some (.subscribe serial k, s') => .next (takeSubscription p serial k s')
  | _ => .next s

/-- UNSUBSCRIPTION (R143). -/
def execUnsubscription (p : Pos) (s : State) : Host.Outcome State Fault Refusal :=
  match s.takeNotice (.record p) .player with
  | some (.unsubscribe _ k, s') => .next (s'.modPlayer k (dropSubscriber p))
  | _ => .next s

/-- R143: a position leaves every subscriber set. -/
def dropEverywhere (p : Pos) (s : State) : State := allPlayers.foldl (fun s k => s.modPlayer k (dropSubscriber p)) s

/-- PLAYER_CLEAR_RELEASE (R110, R143, R147, R148). -/
def execPlayerClearRelease (p : Pos) (s : State) : Host.Outcome State Fault Refusal :=
  match s.takeNotice (.record p) .player with
  | some (.clearRelease, s') =>
    .next (endOneShots (fun a => decide (a.position = p)) .cleared (dropEverywhere p s'))
  | _ => .next s

/-- WHISPER_LIMIT_NOTICE (R104). -/
def execWhisperLimitNotice (p : Pos) (s : State) : Host.Outcome State Fault Refusal :=
  match s.takeNotice (.record p) .player with
  | some (.whisperLimit n, s') =>
    .next { s' with playerUnit := { s'.playerUnit with limits := put s'.playerUnit.limits p n } }
  | _ => .next s

/-! ### The store under the players (R149, R150) -/

/-- R149: the player unit takes a retire notice, and answers with its acknowledgement (R167). -/
def takeRetire (prompt : Nat) (s : State) : State :=
  (dropEntries (fun e => decide (e.prompt = prompt)) (fun e s => skipEntry e .retired s) s).tell .player .store
    (.retireAck prompt)

/-- RETIRE_NOTICE (R149). -/
def execRetireNotice (s : State) : Host.Outcome State Fault Refusal :=
  match s.takeNotice .store .player with
  | some (.retire prompt, s') => .next (takeRetire prompt s')
  | _ => .next s

/-- R150, steps 3 and 4: a player at a store fault. -/
def Player.starved (x : Player) : Player :=
  { x with
    fetch := x.fetch.staled
    length := if x.assignment.isSome then x.cursor + x.buffer.length else x.length }

/-- R150: the player unit takes the store-fault notice. -/
def takeStoreFault (s : State) : State :=
  let s := allPlayers.foldl (fun s k => if (s.player k).role = .music then stopPlayer k s else s) s
  let s := dropEntries (fun _ => true) (fun e s => skipEntry e .noPrompt s) s
  let s := allPlayers.foldl (fun s k => s.modPlayer k Player.starved) s
  { s with playerUnit := { s.playerUnit with fault := true } }

/-- STORE_FAULT_NOTICE (R150). -/
def execStoreFaultNotice (s : State) : Host.Outcome State Fault Refusal :=
  match s.takeNotice .store .player with
  | some (.storeFault, s') => .next (takeStoreFault s')
  | _ => .next s

/-! ### Requests (R140, R141, R142, R151) -/

/-- A request that names a player: RANGE outside 0–5. -/
def onPlayer (port : PortId) (slot : ReqSlot) (n : Nat) (f : PlayerNo → State → State) (s : State) : State :=
  match index? 6 n with
  | none => s.respond port slot .range []
  | some k => f k s

/-- R140: the answer of SET_MUSIC. -/
def Player.musicReport (x : Player) : List Byte :=
  outRole x.role ++ outPlayerState x.state ++ outOpt out8 x.prompt ++ out16 x.level

/-- R140: the player becomes MUSIC and takes up the prompt of the entry. -/
def startMusic (k : PlayerNo) (e : Entry) (level : Nat) (s : State) : State :=
  (letGo k s).modPlayer k (fun x => { x.takesUp e level with role := .music })

/-- R140, R166: SET_MUSIC with its claim; the notices delivered before it are taken first (R3). -/
def setMusicClaim (port : PortId) (slot : ReqSlot) (k : PlayerNo) (prompt level : Nat) (s : State) : State :=
  let s := s.drain .player .store storeTakes
  match musicClaim prompt s with
  | .error st => s.respond port slot st []
  | .ok e =>
    let s := startMusic k e level (musicTakeUp prompt s)
    s.respond port slot .ok (s.player k).musicReport

/-- SET_MUSIC (R140). -/
def setMusic (port : PortId) (slot : ReqSlot) (a : Nat × Nat × Nat) (s : State) : State :=
  onPlayer port slot a.1 (fun k s =>
    let x := s.player k
    if x.role = .pool ∧ x.assignment.isSome = true then s.respond port slot .busy []
    else if x.role = .music ∧ x.state ≠ .idle ∧ x.prompt = some a.2.1 then
      let s := s.modPlayer k (fun x => { x with level := a.2.2 })
      s.respond port slot .ok (s.player k).musicReport
    else setMusicClaim port slot k a.2.1 a.2.2 s) s

/-- R141, R142: the checks that STOP_MUSIC and RELEASE_MUSIC share. -/
def musicRefusal (k : PlayerNo) (s : State) : Option Status :=
  match s.storeRefusal with
  | some st => some st
  | none => if (s.player k).role = .pool then some .state else none

/-- STOP_MUSIC (R141). -/
def stopMusic (port : PortId) (slot : ReqSlot) (n : Nat) (s : State) : State :=
  onPlayer port slot n (fun k s =>
    match musicRefusal k s with
    | some st => s.respond port slot st []
    | none => (stopPlayer k s).respond port slot .ok []) s

/-- R142: an accepted RELEASE_MUSIC. -/
def releaseMusicEffect (k : PlayerNo) (s : State) : State :=
  grantAll ((stopPlayer k s).modPlayer k (fun x => { x with role := .pool, assignment := none, level := 0 }))

/-- RELEASE_MUSIC (R142). -/
def releaseMusic (port : PortId) (slot : ReqSlot) (n : Nat) (s : State) : State :=
  onPlayer port slot n (fun k s =>
    match musicRefusal k s with
    | some st => s.respond port slot st []
    | none =>
      if (s.player k).subscribers = [] then (releaseMusicEffect k s).respond port slot .ok []
      else s.respond port slot .inUse []) s

/-- R134: the assignment as a query reports it. -/
def outAssignment (a : Assignment) : List Byte := outFin a.position ++ [a.serial] ++ outOneShot a.kind ++ [a.number]

/-- R151: the number of queue entries of a class. -/
def countKind (q : List QueueEntry) (kind : OneShot) : Nat := q.countP (fun e => decide (e.kind = kind))

/-- R151: the answer of QUERY_PLAYER. -/
def playerReport (k : PlayerNo) (s : State) : List Byte :=
  let x := s.player k
  let q := s.playerUnit.queue
  outRole x.role ++ outPlayerState x.state ++ outOpt out8 x.prompt ++ out24 x.cursor ++ out16 x.level
    ++ out16 x.buffer.length ++ outFetch x.fetch ++ outBytes (x.subscribers.map (fun p => byte p.val))
    ++ outOpt outAssignment x.assignment ++ out24 x.playedFrames ++ outBool x.underrunEpisode
    ++ out16 x.underrunCount ++ out8 (countKind q .connect) ++ out8 (countKind q .recorded)
    ++ out8 (countKind q .announce)

/-- QUERY_PLAYER (R151). -/
def queryPlayer (port : PortId) (slot : ReqSlot) (n : Nat) (s : State) : State :=
  onPlayer port slot n (fun k s => s.respond port slot .ok (playerReport k s)) s

/-- SET_MUSIC (R140). -/
def execSetMusic (port : PortId) (slot : ReqSlot) (s : State) : Host.Outcome State Fault Refusal :=
  .next (s.serve port slot .setMusic (fun b s =>
    match parseSetMusic b with
    | some a => setMusic port slot a s
    | none => s.respond port slot .range []))

/-- STOP_MUSIC (R141). -/
def execStopMusic (port : PortId) (slot : ReqSlot) (s : State) : Host.Outcome State Fault Refusal :=
  .next (serveOne port slot .stopMusic (stopMusic port slot) s)

/-- RELEASE_MUSIC (R142). -/
def execReleaseMusic (port : PortId) (slot : ReqSlot) (s : State) : Host.Outcome State Fault Refusal :=
  .next (serveOne port slot .releaseMusic (releaseMusic port slot) s)

/-- QUERY_PLAYER (R151). -/
def execQueryPlayer (port : PortId) (slot : ReqSlot) (s : State) : Host.Outcome State Fault Refusal :=
  .next (serveOne port slot .queryPlayer (queryPlayer port slot) s)

end Sys2Proof.Machine
end

