-- ==== Sys2Proof/Machine/HighwayCmds.lean ====
section
/-!
DEFINITION. The line highway (chapter 2): sample periods, frame boundaries, the loss and the restoration of sync, and the
meanings of SYNC_PULSE to FRAME_BOUNDARY.
-/

namespace Sys2Proof.Machine

/-- The highway interface changed. -/
def State.modHighway (s : State) (f : Highway → Highway) : State := { s with highway := f s.highway }

/-- Every timeslot. -/
def allSlots32 : List Timeslot := List.finRange 32

/-! ### Sample periods (R25, R28) -/

/-- R25: the samples of the receive slots in a sample period; where the period carried no bits, free values
(assumption 5). -/
def rxSamples (rx : Option RxPeriod) (draw : Nat) : List Int :=
  match rx with
  | some w => w.toList.map sampleOfWord
  | none => allSlots32.map (fun n => sampleOfWord (Config.lostSample draw n))

/-- R28: what a transmit slot drives in sample period `i`: nothing unless it is bound, and zeros in a collection period
(R34) or for want of an output (R101). -/
def txSample (s : State) (n : Timeslot) : Option Int :=
  let zeroIf := fun (xs : Option (List Int)) =>
    if s.highway.collecting then 0 else ((xs.getD []).getD s.highway.sampleIx 0)
  match look s.highway.roles.tx n with
  | .unbound => none
  | .send p => some (zeroIf (look s.bus.sendOut p))
  | .monitor c => some (zeroIf (look s.bus.monitorOut c))

/-- R32: what the transmit slots drive in a sample period; one without bit clocks carries no bits. -/
def txPeriod (rx : Option RxPeriod) (s : State) : Table 32 (Option Int) :=
  if rx.isSome then table (txSample s) else Vector.replicate 32 none

/-- R29: a sample period opens: its receive samples are collected, its transmit slots driven, and its place in the frame
period counted. -/
def openPeriod (rx : Option RxPeriod) (s : State) : State :=
  let pins := txPeriod rx s
  let s := s.modHighway (fun h =>
    { h with collected := h.collected ++ [rxSamples rx s.freeCount], sampleIx := h.sampleIx + 1, txPins := pins })
  if rx.isSome then s else { s with freeCount := s.freeCount + 1 }

/-! ### Frame boundaries (R28, R29, R30) -/

/-- R28, R29: the samples that a receive slot collected in the frame period. -/
def slotInput (h : Highway) (n : Timeslot) : List Int := h.collected.map (fun xs => xs.getD n.val 0)

/-- R28: the input of a receive role: that of the slot that has held it since the frame period began; nothing where none
has. -/
def roleInput (h : Highway) (r : RxRole) : List Int :=
  match allSlots32.find? (fun n => decide (look h.roles.rx n = r)) with
  | some n => slotInput h n
  | none => []

/-- R84: what stands for a microphone input that a link does not hand: no sample, the flag clear, the link not ACTIVE
(assumption 54). -/
def MicIn.missing : MicIn := { samples := [], whole := false, active := false }

/-- R47, R84: the microphone input of a link for the frame period; a link that does not hold the position bound hands nothing. -/
def LinkRec.micIn (r : LinkRec) : MicIn :=
  if r.callBound then
    { samples := r.mic.toList.map (fun x => x.getD 0)
      whole := r.mic.toList.all Option.isSome
      active := decide (r.linkState = .active) }
  else .missing

/-- R47: no microphone sample has been entered. -/
def LinkRec.clearMic (r : LinkRec) : LinkRec := { r with mic := Vector.replicate 64 none }

/-- R29: the input of the frame that has ended, and which blocks are to take its boundary. -/
def closeInput (s : State) : FrameBus :=
  { s.bus with
    echoDue := true, coachDue := true, playerDue := true, holdDue := true, mixDue := true
    customers := table (fun p => roleInput s.highway (.customer p))
    voices := table (fun c => roleInput s.highway (.coach c))
    mics := table (fun p => (look s.links p).micIn) }

/-- R28, R30: the highway interface at the start of a frame period. -/
def Highway.nextFrame (h : Highway) (roles : SlotMap) : Highway :=
  { h with frameCounter := h.frameCounter + 1, sampleIx := 0, collecting := false, collected := [], roles := roles }

/-- R29: the blocks that have still to take a frame boundary take it, each after those whose outputs it works on
(assumption 16). -/
def finishFrames (s : State) : State :=
  let s := if s.bus.echoDue then echoFrame s else s
  let s := if s.bus.coachDue then coachFrame s else s
  let s := if s.bus.playerDue then playerFrame s else s
  let s := if s.bus.holdDue then seqFrame s else s
  if s.bus.mixReady then mixFrame s else s

/-- R29, R30: the frame boundary. -/
def frameBoundary (s : State) : State :=
  let s := finishFrames s
  { s with
    bus := closeInput s
    links := table (fun p => (look s.links p).clearMic)
    highway := s.highway.nextFrame s.slotMap }

/-- R29: the frame period in progress has had its 64 sample periods. -/
def State.frameOver (s : State) : Bool := decide (s.highway.sync = .inSync ∧ 64 ≤ s.highway.sampleIx)

/-- R29: a sample period in IN_SYNC opens, with the frame boundary before it where a frame period ends. -/
def nextPeriod (rx : Option RxPeriod) (s : State) : State :=
  openPeriod rx (finishFrames (if s.frameOver then frameBoundary s else s))

/-- FRAME_BOUNDARY (R29, R30). -/
def execFrameBoundary (s : State) : Host.Outcome State Fault Refusal :=
  if s.frameOver then .next (frameBoundary s) else .next s

/-! ### Loss and restoration (R31 to R35) -/

/-- R33: the highway interface in LOST, right after the declaration. -/
def Highway.lose (h : Highway) (good : Nat) : Highway :=
  { h with sync := .lost, goodCount := good, missCount := 3, sinceMisplaced := none, sampleIx := 0, collecting := false,
           lossMicros := 0, collected := [], txPins := Vector.replicate 32 none }

/-- R33: the part of the output not yet sent is dropped. -/
def FrameBus.dropOutput (b : FrameBus) : FrameBus :=
  { b with sendOut := Vector.replicate 16 none, earOut := Vector.replicate 16 none,
           monitorOut := Vector.replicate 4 none }

/-- R32, R33: the loss is declared; `good` is the good-sync count that LOST starts from. The gains of the mixes stay at the
targets of the frame whose output is dropped (assumption 55). -/
def declareLoss (good : Nat) (s : State) : State :=
  let s := finishFrames s
  let s := s.raise .highway .syncLost
  { s with
    bus := s.bus.dropOutput
    links := table (fun p => (look s.links p).clearMic)
    highway := s.highway.lose good }

/-- R32: the good-sync count that LOST starts from, given how far before the declaration the latest misplaced pulse
arrived, in bit clocks (across periods without bit clocks: assumption 58). -/
def goodAfter (since : Option Nat) : Nat := if since.any (fun a => decide (a < 512)) then 1 else 0

/-- R32: a miss in IN_SYNC; `since` is the distance from the latest misplaced pulse to the next expected instant. -/
def countMiss (rx : Option RxPeriod) (since : Option Nat) (s : State) : State :=
  nextPeriod rx (s.modHighway (fun h => { h with missCount := h.missCount + 1, sinceMisplaced := since }))

/-- R34, R35: the highway interface as sync is restored, at the start of the collection period. -/
def Highway.restore (h : Highway) : Highway :=
  { h with sync := .inSync, goodCount := 16, missCount := 0, sinceMisplaced := none,
           frameCounter := h.frameCounter + 1, sampleIx := 0, collecting := true, collected := [] }

/-- R34, R35: the cause and the duration that SYNC_RESTORED carries. -/
def Highway.restoredEvent (h : Highway) : Event :=
  match h.sync with
  | .lost => .syncRestored .recovery (min 65535 (h.lossMicros / 1000))
  | _ => .syncRestored .start 0

/-- R34, R35: the 16th good sync. -/
def restoreSync (rx : RxPeriod) (s : State) : State :=
  let s := s.raise .highway s.highway.restoredEvent
  openPeriod (some rx) (s.modHighway Highway.restore)

/-- R34: a good sync while the highway looks for 16. -/
def goodSync (rx : RxPeriod) (s : State) : State :=
  if 15 ≤ s.highway.goodCount then restoreSync rx s
  else s.modHighway (fun h => { h with goodCount := h.goodCount + 1 })

/-- SYNC_PULSE (R31, R32, R34). -/
def execSyncPulse (rx : RxPeriod) (s : State) : Host.Outcome State Fault Refusal :=
  match s.highway.sync with
  | .inSync =>
    .next (nextPeriod (some rx) (s.modHighway (fun h => { h with missCount := 0, sinceMisplaced := none })))
  | .acquiring => .next (goodSync rx s)
  | .lost => .next (goodSync rx s)

/-- R32: the distance from a misplaced pulse to the expected instant that comes after the one it displaced. -/
def distanceToNext (late : Bool) (bits : Nat) : Nat := if late then 512 - bits else 512 + bits

/-- R32, R34: the good-sync count after a third miss by a misplaced pulse (assumption 17). An early pulse stands
before the declaration and is its candidate. A late one comes after the declaration, and LOST takes it: it is a good sync, the
second, where the candidate stood 512 bit clocks before it, and else the new candidate. `since` is the distance from the latest
misplaced pulse before it to the declaration. -/
def goodAfterPulse (late : Bool) (bits : Nat) (since : Option Nat) : Nat :=
  if late && since.any (fun a => decide (a < 512 ∧ a + bits = 512)) then 2 else 1

/-- R32, R34: a misplaced pulse: a miss in IN_SYNC, a new candidate while sync is not held. Each counts one miss and opens one
sample period, whatever other pulse came in the period (assumption 40). -/
def misplaced (late : Bool) (bits : Nat) (rx : RxPeriod) (s : State) : State :=
  match s.highway.sync with
  | .inSync =>
    if 2 ≤ s.highway.missCount then declareLoss (goodAfterPulse late bits s.highway.sinceMisplaced) s
    else countMiss (some rx) (some (distanceToNext late bits)) s
  | .acquiring => s.modHighway (fun h => { h with goodCount := 1 })
  | .lost => s.modHighway (fun h => { h with goodCount := 1 })

/-- MISPLACED_SYNC (R32, R34). A third miss by a misplaced pulse is declared at the instant the pulse displaced
(assumption 17). Each misplaced pulse displaces one instant (assumption 40). -/
def execMisplacedSync (late : Bool) (bits : Nat) (rx : RxPeriod) (s : State) : Host.Outcome State Fault Refusal :=
  .next (misplaced late bits rx s)

/-- R32: the third consecutive miss. -/
def thirdMiss (s : State) : State := declareLoss (goodAfter s.highway.sinceMisplaced) s

/-- R31, R32, R34: an expected instant without a pulse. The period that the miss opens counts as 512 bit clocks in the distance
from the latest misplaced pulse, also where it carries none (assumption 58). -/
def missedInstant (rx : Option RxPeriod) (s : State) : State :=
  match s.highway.sync with
  | .inSync =>
    if 2 ≤ s.highway.missCount then thirdMiss s
    else countMiss rx (s.highway.sinceMisplaced.map (fun a => a + 512)) s
  | .acquiring => s.modHighway (fun h => { h with goodCount := 0 })
  | .lost => s.modHighway (fun h => { h with goodCount := 0 })

/-- SYNC_MISS (R32, R34). -/
def execSyncMiss (rx : Option RxPeriod) (s : State) : Host.Outcome State Fault Refusal := .next (missedInstant rx s)

/-- SYNC_LOST (R32): the third consecutive miss (assumption 4). -/
def execSyncLost (s : State) : Host.Outcome State Fault Refusal :=
  if s.highway.sync = .inSync ∧ 2 ≤ s.highway.missCount then .next (thirdMiss s) else .next s

/-- SYNC_RESTORED (R34, R35): the 16th good sync (assumption 4). -/
def execSyncRestored (rx : RxPeriod) (s : State) : Host.Outcome State Fault Refusal :=
  if s.highway.sync ≠ .inSync ∧ 15 ≤ s.highway.goodCount then .next (restoreSync rx s) else .next s

end Sys2Proof.Machine
end

