-- ==== Sys2Proof/Machine/Loads.lean ====
section
/-!
DEFINITION. The requests of the store controller (chapters 9 and 10): the load session, retirement, the catalogue queries
and the reads of the store.
-/

namespace Sys2Proof.Machine

/-- A request refused by a status: its response carries no field. -/
def refuse (port : PortId) (slot : ReqSlot) (st : Status) (s : State) : State := s.respond port slot st []

/-- R157: a store-group request in the present store state. -/
def whenReady (port : PortId) (slot : ReqSlot) (f : State → State) (s : State) : State :=
  match s.storeRefusal with
  | some st => refuse port slot st s
  | none => f s

/-! ### LOAD_OPEN (R172) -/

/-- R172, R175: the smallest count of sectors that holds the header and so many audio bytes. -/
def sectorsFor (bytes : Nat) : Nat := (64 + bytes + 4095) / 4096

/-- R172: first fit: the lowest-numbered sector that begins `n` consecutive FREE sectors; `i` is the number of the sector
at the head of the list and `run` the count of FREE sectors just before it. -/
def firstFit (n : Nat) : List SectorState → Nat → Nat → Option Nat
  | [], i, run => if n ≤ run then some (i - run) else none
  | x :: xs, i, run =>
    if n ≤ run then some (i - run)
    else firstFit n xs (i + 1) (if x = .free then run + 1 else 0)

/-- R172: the first sector of a run of `n` FREE sectors. -/
def Store.findRun (st : Store) (n : Nat) : Option Nat := firstFit n st.sectors.toList 0 0

/-- R154, R172: the entry that LOAD_OPEN creates. -/
def Entry.opened (id first reserved : Nat) : Entry :=
  { id := id, state := .writing, first := first, reserved := reserved, final := none, length := none, level := none,
    loopPoint := none, label := none, playerRefs := 0, musicRefs := 0, queueRefs := 0, retireAcked := false,
    mark := none }

/-- R171: the load idle timeout, in microseconds. -/
def idleMicros : Nat := 5000000

/-- R171: an erased staging page. -/
def erasedPage : List Byte := List.replicate 256 0xFF

/-- R171, R172: the session that LOAD_OPEN creates. -/
def Session.opened (owner : PortId) (id first reserved maxLength : Nat) : Session :=
  { owner := owner, id := id, first := first, reserved := reserved, maxLength := maxLength, cursor := 0,
    staging := erasedPage, state := .opened, headerPending := true, commitStep := none, nextStep := none,
    commit := none, idle := some idleMicros }

/-- R172: an accepted LOAD_OPEN. -/
def openEffect (port : PortId) (id maxLength first n : Nat) (s : State) : State :=
  let s := s.setSectors (inRun first n) (.allocated id)
  let s := s.modStore (fun st =>
    { st with catalogue := insertEntry (.opened id first n) st.catalogue
              session := some (.opened port id first n maxLength) })
  s.queueJob (.program (first * 4096) ([0x7F, byte id] ++ bigEndian 2 n) (.header id))

/-- LOAD_OPEN (R172): the checks after those of the id and the store state. -/
def openChecked (port : PortId) (slot : ReqSlot) (id maxLength : Nat) (s : State) : State :=
  if s.store.session.isSome then refuse port slot .busy s
  else if (s.entry? id).isSome then refuse port slot .exists_ s
  else if 4194240 < maxLength then refuse port slot .range s
  else
    match s.store.findRun (sectorsFor maxLength) with
    | none => refuse port slot .noSpace s
    | some first =>
      if s.jobRoom then
        (openEffect port id maxLength first (sectorsFor maxLength) s).respond port slot .ok
          (out16 first ++ out16 (sectorsFor maxLength))
      else refuse port slot .busy s

/-- LOAD_OPEN (R172). -/
def loadOpen (port : PortId) (slot : ReqSlot) (a : Nat × Nat) (s : State) : State :=
  if a.1 = 0 then refuse port slot .range s else whenReady port slot (openChecked port slot a.1 a.2) s

/-! ### LOAD_DATA (R173, R174) -/

/-- R173, R175: the refusal of a load request that needs the sender's session in OPEN. -/
def Session.refusal (x : Session) (port : PortId) : Option Status :=
  if x.owner ≠ port then some .state
  else
    match x.state with
    | .opened => none
    | .programming => some .busy
    | .committing => some .state

/-- R173, R175: a load request that needs the sender's session in OPEN. -/
def onSession (port : PortId) (slot : ReqSlot) (f : Session → State → State) (s : State) : State :=
  match s.store.session with
  | none => refuse port slot .state s
  | some x =>
    match x.refusal port with
    | some st => refuse port slot st s
    | none => f x s

/-- R173: the next page boundary above an audio offset. -/
def pageBoundary (o : Nat) : Nat := o + (256 - stagingPlace o)

/-- R173: bytes written into the staging page at the cursor. -/
def stageBytes (staging bytes : List Byte) (o : Nat) : List Byte :=
  staging.take (stagingPlace o) ++ bytes ++ staging.drop (stagingPlace o + bytes.length)

/-- R173: the session with the bytes of a LOAD_DATA in its staging page. -/
def Session.loaded (x : Session) (bytes : List Byte) : Session :=
  { x with staging := stageBytes x.staging bytes x.cursor, cursor := x.cursor + bytes.length, idle := some idleMicros }

/-- R174: the program of the page that the bytes loaded at offset `o` have filled. -/
def Session.fullPage (x : Session) (o : Nat) : Job :=
  .program (x.address o / 256 * 256 + pageStart o) (x.staging.drop (pageStart o)) (.page x.id)

/-- R173, R174: an accepted LOAD_DATA. -/
def dataEffect (x : Session) (bytes : List Byte) (s : State) : State :=
  let y := x.loaded bytes
  if y.cursor = pageBoundary x.cursor then
    (s.queueJob (y.fullPage x.cursor)).modStore (fun st =>
      { st with session := some { y with staging := erasedPage, state := .programming } })
  else s.modStore (fun st => { st with session := some y })

/-- LOAD_DATA (R173): the checks after those of the session. -/
def dataChecked (port : PortId) (slot : ReqSlot) (bytes : List Byte) (x : Session) (s : State) : State :=
  let o := x.cursor + bytes.length
  if pageBoundary x.cursor < o ∨ x.maxLength < o then refuse port slot .range s
  else if o = pageBoundary x.cursor ∧ s.jobRoom = false then refuse port slot .busy s
  else
    (dataEffect x bytes s).respond port slot .ok (out24 o ++ outBool (decide (o = pageBoundary x.cursor)))

/-- LOAD_DATA (R173). -/
def loadData (port : PortId) (slot : ReqSlot) (bytes : List Byte) (s : State) : State :=
  if bytes.length < 1 ∨ 256 < bytes.length then refuse port slot .range s
  else whenReady port slot (onSession port slot (dataChecked port slot bytes)) s

/-! ### LOAD_COMMIT and LOAD_ABANDON (R175, R178) -/

/-- R175: the first of the commit programs. -/
def Session.firstStep (x : Session) : CommitStep := if x.pageHeld then .page else .fields

/-- R175: an accepted LOAD_COMMIT. -/
def commitEffect (x : Session) (a : LoadCommitArgs) (s : State) : State :=
  pump (s.modStore (fun st =>
    { st with
      session := some
        { x with
          state := .committing
          idle := none
          nextStep := some x.firstStep
          commit := some { length := a.length, final := sectorsFor a.length, level := a.level, loopPoint := a.loopPoint,
                           label := a.label } } }))

/-- R175: the fields of LOAD_COMMIT are in their ranges. -/
def LoadCommitArgs.fits (a : LoadCommitArgs) (x : Session) : Bool :=
  decide (a.length = x.cursor) && a.loopPoint.all (fun n => decide (n < a.length))
    && a.label.all (fun t => decide (t.length ≤ 32))

/-- LOAD_COMMIT (R175): the checks after those of the session. -/
def commitChecked (port : PortId) (slot : ReqSlot) (a : LoadCommitArgs) (x : Session) (s : State) : State :=
  if a.fits x then
    if s.jobRoom then (commitEffect x a s).respond port slot .ok (out16 (sectorsFor a.length))
    else refuse port slot .busy s
  else refuse port slot .range s

/-- LOAD_COMMIT (R175). -/
def loadCommit (port : PortId) (slot : ReqSlot) (a : LoadCommitArgs) (s : State) : State :=
  whenReady port slot (onSession port slot (commitChecked port slot a)) s

/-- R178: the checks of LOAD_ABANDON after that of the store state. -/
def abandonChecked (port : PortId) (slot : ReqSlot) (s : State) : State :=
  match s.store.session with
  | none => refuse port slot .state s
  | some x =>
    if x.owner ≠ port ∨ x.state = .committing then refuse port slot .state s
    else if s.jobRoom then
      (failLoad x .abandoned none s).respond port slot .ok (out8 x.id ++ out24 x.cursor)
    else refuse port slot .busy s

/-- LOAD_ABANDON (R178). -/
def loadAbandon (port : PortId) (slot : ReqSlot) (s : State) : State := whenReady port slot (abandonChecked port slot) s

/-! ### RETIRE_PROMPT (R167) -/

/-- R167: an accepted RETIRE_PROMPT. -/
def retireEffect (e : Entry) (s : State) : State :=
  let s := s.modEntry e.id (fun e => { e with state := .retiring, mark := some .pending, retireAcked := false })
  let s := s.queueJob (.program (e.first * 4096) [0x1F] (.marker e.id))
  s.tell .store .player (.retire e.id)

/-- RETIRE_PROMPT (R167): the checks after those of the id and the store state. -/
def retireChecked (port : PortId) (slot : ReqSlot) (id : Nat) (s : State) : State :=
  match s.entry? id with
  | none => refuse port slot .noPrompt s
  | some e =>
    match e.state with
    | .retiring => refuse port slot .noPrompt s
    | .writing => refuse port slot .state s
    | .valid =>
      if e.musicRefs ≠ 0 then refuse port slot .inUse s
      else if s.jobRoom then
        (retireEffect e s).respond port slot .ok
          (out8 e.id ++ out16 (s.store.entrySectors e).length ++ out8 e.playerRefs ++ out8 e.queueRefs)
      else refuse port slot .busy s

/-- RETIRE_PROMPT (R167). -/
def retirePrompt (port : PortId) (slot : ReqSlot) (id : Nat) (s : State) : State :=
  if id = 0 then refuse port slot .range s else whenReady port slot (retireChecked port slot id) s

/-! ### Catalogue queries (R170) -/

/-- R157: a catalogue query before READY. -/
def State.beforeReady (s : State) : Bool := decide (s.store.state = .starting ∨ s.store.state = .scanning)

/-- R170: every field of an entry that is present. -/
def Entry.fields (e : Entry) : List Byte :=
  out8 e.id ++ outPromptState e.state ++ out16 e.first ++ out16 e.reserved ++ outOpt out16 e.final
    ++ outOpt out24 e.length ++ outOpt out16 e.level ++ outOpt out24 e.loopPoint ++ outOpt outBytes e.label
    ++ out8 e.playerRefs ++ out8 e.musicRefs ++ out8 e.queueRefs
    ++ outOpt outBool (if e.state = .retiring then some e.retireAcked else none) ++ outOpt outMark e.mark

/-- QUERY_PROMPT (R170). -/
def queryPrompt (port : PortId) (slot : ReqSlot) (id : Nat) (s : State) : State :=
  if id = 0 then refuse port slot .range s
  else if s.beforeReady then refuse port slot .notReady s
  else
    match s.entry? id with
    | none => refuse port slot .noPrompt s
    | some e => s.respond port slot .ok e.fields

/-- R170: an entry as LIST_PROMPTS gives it. -/
def Entry.listed (e : Entry) : List Byte :=
  out8 e.id ++ outPromptState e.state ++ outOpt out24 e.length ++ outOpt out16 e.level ++ outOpt outBytes e.label

/-- R170: the answer of LIST_PROMPTS from an id on. -/
def listReport (start : Nat) (s : State) : List Byte :=
  let es := s.store.catalogue.filter (fun e => decide (start ≤ e.id))
  out8 (es.take 8).length ++ (es.take 8).flatMap Entry.listed ++ outOpt out8 ((es.drop 8).head?.map Entry.id)

/-- LIST_PROMPTS (R170). -/
def listPrompts (port : PortId) (slot : ReqSlot) (start : Nat) (s : State) : State :=
  if start = 0 then refuse port slot .range s
  else if s.beforeReady then refuse port slot .notReady s
  else s.respond port slot .ok (listReport start s)

/-- R170: the number of sectors in a sector-map state. -/
def Store.countSectors (st : Store) (p : SectorState → Bool) : Nat := st.sectors.toList.countP p

/-- The sector is ALLOCATED. -/
def SectorState.isAllocated : SectorState → Bool
  | .allocated _ => true
  | _ => false

/-- R170: the longest run of consecutive FREE sectors. -/
def longestFree : List SectorState → Nat → Nat → Nat
  | [], _, best => best
  | x :: xs, run, best =>
    if x = .free then longestFree xs (run + 1) (max best (run + 1)) else longestFree xs 0 best

/-- R170: the number of catalogue entries in a prompt state. -/
def Store.countEntries (st : Store) (x : PromptState) : Nat := st.catalogue.countP (fun e => decide (e.state = x))

/-- R170: the number of sectors on the erase list. -/
def Store.eraseCount (st : Store) : Nat := (st.eraseList.map (fun r => r.todo.length)).foldl (· + ·) 0

/-- R170: the answer of STORE_STATUS. -/
def storeReport (s : State) : List Byte :=
  let st := s.store
  outStoreState st.state ++ outOpt outFaultCause st.cause ++ out16 (st.countSectors (fun x => decide (x = .free)))
    ++ out16 (st.countSectors SectorState.isAllocated) ++ out16 (st.countSectors (fun x => decide (x = .erasing)))
    ++ out16 (st.countSectors (fun x => decide (x = .bad))) ++ out16 (longestFree st.sectors.toList 0 0)
    ++ out8 (st.countEntries .writing) ++ out8 (st.countEntries .valid) ++ out8 (st.countEntries .retiring)
    ++ out8 s.arbiter.jobs.length ++ out16 st.eraseCount ++ outBool st.session.isSome

/-! ### READ_STORE and READ_NEXT (R179) -/

/-- R179: a read refused with a status: the cursor stays as it was. -/
def refuseRead (port : PortId) (slot : ReqSlot) (st : Status) (s : State) : State :=
  s.modPort port (fun x => x.refuseRead slot st)

/-- R179: an accepted read: the cursor moves at once, and the read waits at the arbiter. -/
def readEffect (port : PortId) (slot : ReqSlot) (start count : Nat) (s : State) : State :=
  let s := s.modPort port (fun x => x.acceptRead slot (start + count))
  s.modArbiter (fun a => { a with reads := a.reads ++ [.port port slot start count] })

/-- R179: the checks of a read from an address on. -/
def readFrom (port : PortId) (slot : ReqSlot) (start count : Nat) (s : State) : State :=
  if count < 1 ∨ 128 < count ∨ 16777216 < start + count then refuseRead port slot .range s
  else
    match s.store.state with
    | .starting => refuseRead port slot .notReady s
    | .fault => refuseRead port slot .storeFault s
    | .scanning | .ready => readEffect port slot start count s

/-! ### Meanings -/

/-- LOAD_OPEN (R172). -/
def execLoadOpen (port : PortId) (slot : ReqSlot) (s : State) : Host.Outcome State Fault Refusal :=
  .next (s.serve port slot .loadOpen (fun b s =>
    match parseLoadOpen b with
    | some a => loadOpen port slot a s
    | none => refuse port slot .range s))

/-- LOAD_DATA (R173, R174). -/
def execLoadData (port : PortId) (slot : ReqSlot) (s : State) : Host.Outcome State Fault Refusal :=
  .next (s.serve port slot .loadData (fun b s =>
    match parseLoadData b with
    | some a => loadData port slot a s
    | none => refuse port slot .range s))

/-- LOAD_COMMIT (R175). -/
def execLoadCommit (port : PortId) (slot : ReqSlot) (s : State) : Host.Outcome State Fault Refusal :=
  .next (s.serve port slot .loadCommit (fun b s =>
    match parseLoadCommit b with
    | some a => loadCommit port slot a s
    | none => refuse port slot .range s))

/-- LOAD_ABANDON (R178). -/
def execLoadAbandon (port : PortId) (slot : ReqSlot) (s : State) : Host.Outcome State Fault Refusal :=
  .next (s.serve port slot .loadAbandon (fun _ s => loadAbandon port slot s))

/-- RETIRE_PROMPT (R167). -/
def execRetirePrompt (port : PortId) (slot : ReqSlot) (s : State) : Host.Outcome State Fault Refusal :=
  .next (serveOne port slot .retirePrompt (retirePrompt port slot) s)

/-- QUERY_PROMPT (R170). -/
def execQueryPrompt (port : PortId) (slot : ReqSlot) (s : State) : Host.Outcome State Fault Refusal :=
  .next (serveOne port slot .queryPrompt (queryPrompt port slot) s)

/-- LIST_PROMPTS (R170). -/
def execListPrompts (port : PortId) (slot : ReqSlot) (s : State) : Host.Outcome State Fault Refusal :=
  .next (serveOne port slot .listPrompts (listPrompts port slot) s)

/-- STORE_STATUS (R170). -/
def execStoreStatus (port : PortId) (slot : ReqSlot) (s : State) : Host.Outcome State Fault Refusal :=
  .next (s.serve port slot .storeStatus (fun _ s => s.respond port slot .ok (storeReport s)))

/-- READ_STORE (R179). -/
def execReadStore (port : PortId) (slot : ReqSlot) (s : State) : Host.Outcome State Fault Refusal :=
  .next (s.serve port slot .readStore (fun b s =>
    match parseReadStore b with
    | some a => readFrom port slot a.1 a.2 s
    | none => refuseRead port slot .range s))

/-- READ_NEXT (R179). -/
def execReadNext (port : PortId) (slot : ReqSlot) (s : State) : Host.Outcome State Fault Refusal :=
  .next (serveOne port slot .readNext (fun n s => readFrom port slot (s.port port).readCursor n s) s)

/-- LOAD_IDLE_TIMEOUT (R177): the load idle timer has reached 0. -/
def execLoadIdleTimeout (s : State) : Host.Outcome State Fault Refusal :=
  match s.store.session with
  | some x => if x.idle = some 0 then .next (failLoad x .idle none s) else .next s
  | none => .next s

end Sys2Proof.Machine
end

