-- ==== Sys2Proof/Machine/Ports.lean ====
section
/-!
DEFINITION. The ports (chapter 11): reset, transactions, the port controller's own requests and the offer of events, and
the meanings of RESET to UNKNOWN_REQUEST, IDENTIFY, SET_CHARTER, SUBSCRIBE and EVENT_OFFER.
-/

namespace Sys2Proof.Machine

/-! ### RESET (R2, R189) -/

/-- What the flash holds after a reset that cuts off a program or an erase: `torn` gives the first bytes of its range. -/
def tornFlash (torn : List Byte) (s : State) : Memory :=
  match s.arbiter.current, s.arbiter.erase with
  | some (.program addr bytes _ _), _ => s.flash.writeBytes addr (torn.take bytes.length)
  | _, some e => s.flash.writeBytes (sectorBase e.sector) (torn.take 4096)
  | _, none => s.flash

/-- R189: the state at the end of a reset. What is outside the part stays: the flash contents, and the commands that
wait. -/
def resetState (cause : ResetCause) (torn : List Byte) (s : State) : State :=
  { State.afterReset cause (tornFlash torn s) with pending := s.pending, freeCount := s.freeCount }

/-- RESET (R189). -/
def execReset (cause : ResetCause) (torn : List Byte) (s : State) : Host.Outcome State Fault Refusal :=
  .next (resetState cause torn s)

/-! ### Transactions (R180, R185) -/

/-- PORT_WRITE (R180, R183). -/
def execPortWrite (port : PortId) (msg : List Byte) (s : State) : Host.Outcome State Fault Refusal :=
  .next (s.modPort port (fun x => x.writeTransaction msg))

/-- R180: a write transaction whose select rises early: a partial message is discarded without an answer; an intake decision
that was made stands, and the rest of its answer, after the bytes that were clocked, is lost. -/
def Port.abortedWrite (x : Port) (msg : List Byte) : Port :=
  let y := x.writeTransaction msg
  { y with dataOut := y.dataOut.take (bytesAfter msg) }

/-- TRANSACTION_ABORTED (R180). -/
def execTransactionAborted (port : PortId) (msg : List Byte) (s : State) : Host.Outcome State Fault Refusal :=
  .next (s.modPort port (fun x => x.abortedWrite msg))

/-- R180: the first byte names neither a write nor a read. -/
def otherKind (bytes : List Byte) : Bool := decide (bytes.headD 0 ≠ 1 ∧ bytes.headD 0 ≠ 2)

/-- IGNORED_TRANSACTION (R180). -/
def execIgnoredTransaction (port : PortId) (bytes : List Byte) (s : State) : Host.Outcome State Fault Refusal :=
  if otherKind bytes then
    .next (s.modPort port (fun x => { x with dataOut := List.replicate bytes.length 0 }))
  else .next s

/-- PORT_READ (R180, R185). -/
def execPortRead (port : PortId) (clocks : Nat) (s : State) : Host.Outcome State Fault Refusal :=
  .next (s.modPort port (fun x => x.readTransaction clocks))

/-! ### The port controller's own answers (R184, R186, R187, R190) -/

/-- R184, step 1: a slot's request names no request of the part, and the port controller may take it now. -/
def Port.unknownAt (x : Port) (i : ReqSlot) : Bool :=
  match look x.slots i with
  | .request _ code _ _ => decide (codeOf code = none) && x.reaches i
  | _ => false

/-- UNKNOWN_REQUEST (R184). -/
def execUnknownRequest (port : PortId) (slot : ReqSlot) (s : State) : Host.Outcome State Fault Refusal :=
  if (s.port port).unknownAt slot then
    .next ((s.modPort port (fun x => x.carryBefore slot)).respond port slot .unknown [])
  else .next s

/-- The other port. -/
def otherPort : PortId → PortId
  | .a => .b
  | .b => .a

/-- R190: the part name "Entuvo 4216", in ASCII. -/
def partName : List Byte := [0x45, 0x6E, 0x74, 0x75, 0x76, 0x6F, 0x20, 0x34, 0x32, 0x31, 0x36]

/-- R190: the silicon revision (assumption 6). -/
def siliconRevision : Nat := Config.siliconRevisionLessOne.val + 1

/-- R190: the answer of IDENTIFY. -/
def identity (port : PortId) (s : State) : List Byte :=
  let x := s.port port
  let y := s.port (otherPort port)
  outBytes partName ++ out8 siliconRevision ++ outResetCause s.resetCause ++ outSync s.highway.sync
    ++ out32 s.highway.frameCounter.toNat ++ outStoreState s.store.state ++ outOpt outFaultCause s.store.cause
    ++ [groupsByte x.charter] ++ outBool x.latched ++ [groupsByte y.charter] ++ outBool y.latched
    ++ [flagsByte x.subs] ++ out8 x.slotsInUse ++ out8 x.answered.length ++ out8 x.events.length ++ outBool x.overflow

/-- IDENTIFY (R190). -/
def execIdentify (port : PortId) (slot : ReqSlot) (s : State) : Host.Outcome State Fault Refusal :=
  .next (s.serve port slot .identify (fun _ s => s.respond port slot .ok (identity port s)))

/-- R186: the checks of SET_CHARTER: the status of the first that fails. -/
def charterRefusal (x y : Port) (g : Groups) : Option Status :=
  if x.latched then some .latched
  else if g.call && y.charter.call then some .conflict
  else if g.store && y.charter.store then some .conflict
  else none

/-- SET_CHARTER (R186). -/
def setCharter (port : PortId) (slot : ReqSlot) (n : Nat) (s : State) : State :=
  match groupsOf? n with
  | none => s.respond port slot .range []
  | some g =>
    match charterRefusal (s.port port) (s.port (otherPort port)) g with
    | some st => s.respond port slot st []
    | none => (s.modPort port (fun x => { x with charter := g, latched := true })).respond port slot .ok [groupsByte g]

/-- SET_CHARTER (R186). -/
def execSetCharter (port : PortId) (slot : ReqSlot) (s : State) : Host.Outcome State Fault Refusal :=
  .next (serveOne port slot .setCharter (setCharter port slot) s)

/-- SUBSCRIBE (R187): bits 0–5 name the classes CALL to STORE; FAULT and the bit above it may not be named. -/
def subscribe (port : PortId) (slot : ReqSlot) (a : Nat × Nat) (s : State) : State :=
  if 64 ≤ a.1 then s.respond port slot .range []
  else
    let s := s.modPort port (fun x => { x with subs := x.subs.write a.1 a.2 })
    s.respond port slot .ok [flagsByte (s.port port).subs]

/-- SUBSCRIBE (R187). -/
def execSubscribe (port : PortId) (slot : ReqSlot) (s : State) : Host.Outcome State Fault Refusal :=
  .next (serveTwo port slot .subscribe (subscribe port slot) s)

/-! ### EVENT_OFFER (R187, R188) -/

/-- The oldest event raised by a block, with the events that remain. -/
def firstRaised (src : Block) : List Raised → Option (Raised × List Raised)
  | [] => none
  | r :: rs => if r.src = src then some (r, rs) else (firstRaised src rs).map (fun x => (x.1, r :: x.2))

/-- R187: a copy of the event for a port whose flag is on. -/
def Port.offered (x : Port) (r : Raised) : Port := if x.wants r.event then x.offer r.stamp r.event else x

/-- EVENT_OFFER (R187, R188). -/
def execEventOffer (src : Block) (s : State) : Host.Outcome State Fault Refusal :=
  match firstRaised src s.raised with
  | some (r, rest) =>
    .next { s with raised := rest, portA := s.portA.offered r, portB := s.portB.offered r }
  | none => .next s

end Sys2Proof.Machine
end

