-- ==== Sys2Proof/Machine/Store.lean ====
section
/-!
DEFINITION. The store controller without its requests (chapter 9): the start-up scan, the flash port arbiter, the ends of
programs, erases and reads, the notices of the player unit, and the meanings of FETCH_DELIVERY and of STATUS_READY to
FLASH_READY_AFTER_TIMEOUT.
-/

namespace Sys2Proof.Machine

/-! ### What the flash holds after an operation -/

/-- The bytes of a list that lie within `count` bytes from an address on, stored in the flash. -/
def overwrite (addr count : Nat) (left : List Byte) (s : State) : State :=
  { s with flash := s.flash.writeBytes addr (left.take count) }

/-! ### The scan (R158, R159, R160) -/

/-- R156: the fields of a header as the scan reads them. -/
structure Header where
  marker : Byte
  id : Nat
  reserved : Nat
  length : Nat
  final : Nat
  level : Nat
  loopPoint : Nat
  labelLength : Nat
  label : List Byte
  deriving DecidableEq, Repr

/-- R156: the header at an address. -/
def readHeader (m : Memory) (a : Nat) : Header :=
  let field := fun (o n : Nat) => fromBigEndian (m.readBytes (a + o) n)
  { marker := m.read a, id := field 1 1, reserved := field 2 2, length := field 4 3, final := field 7 2,
    level := field 9 2, loopPoint := field 11 3, labelLength := field 14 1,
    label := m.readBytes (a + 15) (min 32 (field 14 1)) }

/-- R158: the checks of every marker, for a decision of `count` sectors from sector `n` on. -/
def Header.sound (h : Header) (n count : Nat) : Bool :=
  decide (1 ≤ h.id ∧ 1 ≤ h.reserved ∧ h.reserved ≤ 1024 ∧ n + count ≤ 4096)

/-- R158: a VALID header is consistent. -/
def Header.validSound (h : Header) (n : Nat) : Bool :=
  h.sound n h.final &&
    decide (1 ≤ h.final ∧ h.final ≤ h.reserved ∧ h.length + 64 ≤ h.final * 4096 ∧ h.labelLength ≤ 32)

/-- R158: the sectors of an interrupted retirement. -/
def Header.retiredCount (h : Header) : Nat := if 1 ≤ h.final ∧ h.final ≤ h.reserved then h.final else h.reserved

/-- R160: the catalogue entry of a VALID header at sector `n`. -/
def Header.entry (h : Header) (n : Nat) : Entry :=
  { id := h.id, state := .valid, first := n, reserved := h.reserved, final := some h.final, length := some h.length,
    level := some h.level, loopPoint := if h.loopPoint = 0xFFFFFF then none else some h.loopPoint,
    label := some h.label, playerRefs := 0, musicRefs := 0, queueRefs := 0, retireAcked := false, mark := none }

/-- R158: what the scan decides at a sector. -/
inductive Decision where
  | readWhole
  | validPrompt (e : Entry) (count : Nat)
  | torn (id count : Nat)
  | retired (id count : Nat)
  | invalid
  deriving DecidableEq, Repr

/-- R158: the decision that a header at sector `n` gives, with the entries found so far. -/
def Header.decision (h : Header) (n : Nat) (held : List Entry) : Decision :=
  if h.marker = 0xFF then .readWhole
  else if h.marker = 0x3F then
    if h.validSound n then
      if held.any (fun e => decide (e.id = h.id)) then .retired h.id h.final else .validPrompt (h.entry n) h.final
    else .invalid
  else if h.marker = 0x7F then (if h.sound n h.reserved then .torn h.id h.reserved else .invalid)
  else if h.marker = 0x1F then
    if h.sound n h.retiredCount then .retired h.id h.retiredCount else .invalid
  else .invalid

/-- The scan's part of the state changed. -/
def State.modScan (s : State) (f : Scan → Scan) : State := s.modStore (fun st => { st with scan := f st.scan })

/-- A read of the scan joins the reads that wait (R159, R162). -/
def askScan (r : ReadReq) (s : State) : State := s.modArbiter (fun a => { a with reads := a.reads ++ [r] })

/-- R160: the scan has decided sector 4095. -/
def finishScan (s : State) : State :=
  let c := s.store.scan
  let s := s.modStore (fun st => { st with state := .ready, catalogue := c.held, scan := .reset })
  s.raise .store (.storeReady c.valid c.torn c.retired c.invalid
    (s.store.sectors.toList.countP (fun x => decide (x = .erasing))))

/-- R158: the scan moves to the sector after the last it has decided. -/
def advanceScan (next : Nat) (s : State) : State :=
  let s := s.modScan (fun c => { c with next := next })
  if 4096 ≤ next then finishScan s else askScan (.scanHeader next) s

/-- R159: a run found to be ERASING joins the erase list at once: from its highest sector downward, like that of a
retirement with mark DONE (assumption 19). -/
def scanErases (first count : Nat) (id : Option Nat) (s : State) : State :=
  pump (joinErase
    { todo := ((List.range count).map (fun k => first + k)).reverse, erased := [], bad := 0, id := id, mark := none } s)

/-- R158: an invalid sector. -/
def scanInvalid (n : Nat) (s : State) : State :=
  advanceScan (n + 1) (scanErases n 1 none (s.modScan (fun c => { c with invalid := c.invalid + 1 })))

/-- R158: the decision at sector `n` is carried out. -/
def scanDecides (n : Nat) (d : Decision) (s : State) : State :=
  match d with
  | .readWhole => askScan (.scanWhole n) s
  | .validPrompt e count =>
    let s := s.setSectors (inRun n count) (.allocated e.id)
    advanceScan (n + count) (s.modScan (fun c => { c with valid := c.valid + 1, held := insertEntry e c.held }))
  | .torn id count =>
    advanceScan (n + count) (scanErases n count (some id) (s.modScan (fun c => { c with torn := c.torn + 1 })))
  | .retired id count =>
    advanceScan (n + count) (scanErases n count (some id) (s.modScan (fun c => { c with retired := c.retired + 1 })))
  | .invalid => scanInvalid n s

/-- R158: the whole-sector read of sector `n` completes. -/
def scanWhole (n : Nat) (s : State) : State :=
  if s.flash.sectorErased n then advanceScan (n + 1) (s.setSectors (fun k => decide (k = n)) .free)
  else scanInvalid n s

/-! ### The arbiter (R162, R163) -/

/-- R163: when no fetch or read waits, the suspended erase resumes. -/
def Arbiter.resume (a : Arbiter) : Arbiter :=
  if a.fetches = [] ∧ a.reads = [] then { a with erase := a.erase.map (fun e => { e with suspended := false }) } else a

/-- An operation that is not an erase has ended: the port is free, and a suspended erase resumes if nothing waits. -/
def endOperation (s : State) : State := s.modArbiter (fun a => { a with current := none }.resume)

/-- R162: the players from the next above the pointer on. -/
def playersAfter (k : PlayerNo) : List PlayerNo :=
  (List.range 6).filterMap (fun i => index? 6 ((k.val + 1 + i) % 6))

/-- R162: the waiting fetch that is served next. -/
def Arbiter.nextFetch (a : Arbiter) : Option FetchReq :=
  (playersAfter a.pointer).findSome? (fun k => a.fetches.find? (fun r => decide (r.player = k)))

/-- R161, R162, R163: the arbiter may begin an operation: the port is free, no operation that timed out is still to report
ready, and the store is not in FAULT. -/
def State.portFree (s : State) : Bool :=
  decide (s.arbiter.current = none ∧ s.arbiter.recovering = none ∧ s.store.state ≠ .fault) &&
    (match s.arbiter.erase with
     | none => true
     | some e => e.suspended && (decide (s.arbiter.fetches ≠ []) || decide (s.arbiter.reads ≠ [])))

/-- R162: the arbiter begins the job at the head of the queue. -/
def beginJob (j : Job) (rest : List Job) (s : State) : State :=
  let s := s.modArbiter (fun a =>
    match j with
    | .program addr bytes owner => { a with jobs := rest, current := some (.program addr bytes owner 0) }
    | .erase sector => { a with jobs := rest, erase := some { sector := sector, micros := 0, suspended := false } })
  pump s

/-- R162: the arbiter begins the next operation. -/
def beginNext (s : State) : State :=
  match s.arbiter.nextFetch with
  | some r =>
    s.modArbiter (fun a =>
      { a with current := some (.fetch r), fetches := a.fetches.filter (fun x => decide (x.player ≠ r.player)),
               pointer := r.player })
  | none =>
    match s.arbiter.reads with
    | r :: rest => s.modArbiter (fun a => { a with current := some (.read r), reads := rest })
    | [] =>
      match s.arbiter.jobs with
      | j :: rest => beginJob j rest s
      | [] => s

/-- ARBITER_START (R162). -/
def execArbiterStart (s : State) : Host.Outcome State Fault Refusal :=
  if s.portFree then .next (beginNext s) else .next s

/-- R163: an erase in progress is to be suspended: a fetch or a read waits. -/
def State.maySuspend (s : State) : Bool :=
  decide (s.arbiter.current = none ∧ s.arbiter.recovering = none ∧ s.store.state ≠ .fault) &&
    (decide (s.arbiter.fetches ≠ []) || decide (s.arbiter.reads ≠ [])) &&
    s.arbiter.erase.any (fun e => !e.suspended)

/-- R163: the erase in progress is suspended. -/
def suspendErase (left : List Byte) (s : State) : State :=
  match s.arbiter.erase with
  | none => s
  | some e =>
    overwrite (sectorBase e.sector) 4096 left
      (s.modArbiter (fun a => { a with erase := some { e with suspended := true } }))

/-- ERASE_SUSPEND (R163). -/
def execEraseSuspend (left : List Byte) (s : State) : Host.Outcome State Fault Refusal :=
  if s.maySuspend then .next (suspendErase left s) else .next s

/-- R137: a player takes the bytes of its fetch. -/
def Player.delivered (bytes : List Byte) (x : Player) : Player :=
  match x.fetch with
  | .live => { x with buffer := x.buffer ++ bytes, fetch := .none, underrunEpisode := false }
  | .stale => { x with fetch := .none }
  | .none => x

/-- FETCH_DELIVERY (R137, R163). -/
def execFetchDelivery (s : State) : Host.Outcome State Fault Refusal :=
  match s.arbiter.current with
  | some (.fetch r) =>
    .next (endOperation (s.modPlayer r.player (Player.delivered (s.flash.readBytes r.addr r.count))))
  | _ => .next s

/-- STORE_READ_DONE (R179): a port's read has ended: "the response OK is queued at the port with the start address and the
bytes as the flash holds them at that moment." The refusals of later reads that waited for it follow. -/
def execStoreReadDone (s : State) : Host.Outcome State Fault Refusal :=
  match s.arbiter.current with
  | some (.read (.port port slot start count)) =>
    .next (endOperation
      (s.modPort port (fun x => x.answerRead slot .ok (out24 start ++ outBytes (s.flash.readBytes start count)))))
  | _ => .next s

/-- R159, R162: a read of the scan has been delivered: the port is free, and whatever waits for it begins before the scan asks
for its next read. An erase of a run that the scan has found thus goes on between the scan's reads, which suspend it (R163)
(assumption 38). -/
def scanReadEnds (s : State) : State :=
  let s := endOperation s
  if s.portFree then beginNext s else s

/-- SCAN_READ (R158, R159): a read of the scan has ended. -/
def execScanRead (s : State) : Host.Outcome State Fault Refusal :=
  match s.arbiter.current with
  | some (.read (.scanHeader n)) =>
    .next (scanDecides n ((readHeader s.flash (sectorBase n)).decision n s.store.scan.held) (scanReadEnds s))
  | some (.read (.scanWhole n)) => .next (scanWhole n (scanReadEnds s))
  | _ => .next s

/-! ### The ends of programs (R164, R174 to R177) -/

/-- R176: the catalogue entry of a finished commit. -/
def Entry.committed (f : CommitFields) (e : Entry) : Entry :=
  { e with state := .valid, final := some f.final, length := some f.length, level := some f.level,
           loopPoint := f.loopPoint, label := f.label }

/-- R176: the MARKER program has completed. -/
def commitDone (x : Session) (f : CommitFields) (s : State) : State :=
  let s := s.modEntry x.id (Entry.committed f)
  let s := s.setSectors (inRun (x.first + f.final) (x.reserved - f.final)) .free
  let s := s.modStore (fun st => { st with session := none })
  s.raise .store (.loadDone x.id x.first f.final f.length (x.reserved - f.final))

/-- R175: a commit program has completed: the turn of the next. -/
def nextCommit (x : Session) (k : CommitStep) (s : State) : State :=
  match k with
  | .page => pump (s.modStore (fun st =>
      { st with session := some { x with commitStep := none, nextStep := some .fields } }))
  | .fields => pump (s.modStore (fun st =>
      { st with session := some { x with commitStep := none, nextStep := some .marker } }))
  | .marker =>
    match x.commit with
    | some f => commitDone x f s
    | none => s

/-- The session of an id, while it exists. -/
def State.sessionOf (s : State) (id : Nat) : Option Session := s.store.session.filter (fun x => decide (x.id = id))

/-- R164: a program's owner is told that it completed. -/
def ownerDone (o : JobOwner) (s : State) : State :=
  match o with
  | .header id =>
    match s.sessionOf id with
    | some x => pump (s.modStore (fun st => { st with session := some { x with headerPending := false } }))
    | none => s
  | .page id =>
    match s.sessionOf id with
    | some x => s.modStore (fun st => { st with session := some { x with state := .opened } })
    | none => s
  | .commit id k =>
    match s.sessionOf id with
    | some x => nextCommit x k s
    | none => s
  | .marker id => maybeErase id (s.modEntry id (fun e => { e with mark := some .done }))

/-- R164: the cause of a load that ends by a failed program. -/
def FlashCause.loadCause : FlashCause → LoadCause
  | .timeout => .timeout
  | .verify => .verify

/-- R164, R177: a program of the load of an id has failed: its sector becomes BAD, and the load fails if its session still
exists. -/
def loadProgramFails (id sector : Nat) (cause : FlashCause) (s : State) : State :=
  let s := s.setSectors (fun n => decide (n = sector)) .bad
  let s := s.raise .store (.sectorBad sector .program cause (some id))
  match s.sessionOf id with
  | some x => failLoad x cause.loadCause (some sector) s
  | none => s

/-- R164: a program has failed. -/
def ownerFailed (o : JobOwner) (sector : Nat) (cause : FlashCause) (s : State) : State :=
  match o with
  | .header id => loadProgramFails id sector cause s
  | .page id => loadProgramFails id sector cause s
  | .commit id _ => loadProgramFails id sector cause s
  | .marker id => maybeErase id (s.modEntry id (fun e => { e with mark := some .failed }))

/-- What the flash holds after a program of bytes: what R152 gives, but for the bytes that `left` gives. -/
def programFlash (addr : Nat) (bytes left : List Byte) (s : State) : State :=
  overwrite addr bytes.length left { s with flash := s.flash.program addr bytes }

/-- R164: the flash has reported ready, and the job's bytes are read back. -/
def programEnds (addr : Nat) (bytes : List Byte) (owner : JobOwner) (left : List Byte) (s : State) : State :=
  let s := endOperation (programFlash addr bytes left s)
  if s.flash.verifies addr bytes then ownerDone owner s else ownerFailed owner (addr / 4096) .verify s

/-- R164: the longest a program may take, in microseconds. -/
def programMicros : Nat := 5000

/-- PROGRAM_DONE (R164). -/
def execProgramDone (left : List Byte) (s : State) : Host.Outcome State Fault Refusal :=
  match s.arbiter.current with
  | some (.program addr bytes owner t) =>
    if t ≤ programMicros then .next (programEnds addr bytes owner left s) else .next s
  | _ => .next s

/-- R161: an operation has timed out: the arbiter waits for the flash to report ready. -/
def awaitReady (s : State) : State := s.modArbiter (fun a => { a with recovering := some 0 })

/-- PROGRAM_TIMEOUT (R164). -/
def execProgramTimeout (left : List Byte) (s : State) : Host.Outcome State Fault Refusal :=
  match s.arbiter.current with
  | some (.program addr bytes owner t) =>
    if programMicros < t then
      .next (ownerFailed owner (addr / 4096) .timeout (awaitReady (endOperation (programFlash addr bytes left s))))
    else .next s
  | _ => .next s

/-! ### The ends of erases (R163, R165) -/

/-- R163: the longest unsuspended time of an erase, in microseconds. -/
def eraseMicros : Nat := 500000

/-- R165: the head run, its sector in progress having ended, is put back, or finished if it was the last. -/
def runGoesOn (r : Run) (rest : List Run) (s : State) : State :=
  if r.todo = [] then pump (finishRun r (s.modStore (fun st => { st with eraseList := rest })))
  else pump (s.modStore (fun st => { st with eraseList := r :: rest }))

/-- R165: the erase of a sector has completed. -/
def eraseCompletes (sector : Nat) (s : State) : State :=
  let s := { s with flash := s.flash.eraseSector sector }
  let s := s.modArbiter (fun a => { a with erase := none })
  match s.store.eraseList with
  | r :: rest => runGoesOn { r with todo := r.todo.tail, erased := r.erased ++ [sector] } rest s
  | [] => s

/-- R165: the erase of a sector has failed. -/
def eraseFails (sector : Nat) (left : List Byte) (s : State) : State :=
  let s := overwrite (sectorBase sector) 4096 left s
  let s := awaitReady (s.modArbiter (fun a => { a with erase := none }))
  let s := s.setSectors (fun n => decide (n = sector)) .bad
  match s.store.eraseList with
  | r :: rest =>
    runGoesOn { r with todo := r.todo.tail, bad := r.bad + 1 } rest
      (s.raise .store (.sectorBad sector .erase .timeout r.id))
  | [] => s.raise .store (.sectorBad sector .erase .timeout none)

/-- ERASE_DONE (R165). -/
def execEraseDone (s : State) : Host.Outcome State Fault Refusal :=
  match s.arbiter.erase with
  | some e => if e.suspended = false ∧ e.micros ≤ eraseMicros then .next (eraseCompletes e.sector s) else .next s
  | none => .next s

/-- ERASE_TIMEOUT (R165). -/
def execEraseTimeout (left : List Byte) (s : State) : Host.Outcome State Fault Refusal :=
  match s.arbiter.erase with
  | some e => if e.suspended = false ∧ eraseMicros < e.micros then .next (eraseFails e.sector left s) else .next s
  | none => .next s

/-! ### Start, FAULT and recovery (R157, R161) -/

/-- R157, R161: 1 s of the store timer, in microseconds. -/
def readyMicros : Nat := 1000000

/-- STATUS_READY (R157). -/
def execStatusReady (s : State) : Host.Outcome State Fault Refusal :=
  if s.store.state = .starting ∧ s.store.startMicros < readyMicros then
    .next (askScan (.scanHeader 0) (s.modStore (fun st => { st with state := .scanning, scan := .reset })))
  else .next s

/-- START_TIMEOUT (R157, R161). -/
def execStartTimeout (s : State) : Host.Outcome State Fault Refusal :=
  if s.store.state = .starting ∧ readyMicros ≤ s.store.startMicros then .next (enterFault .start s) else .next s

/-- STUCK_TIMEOUT (R161). -/
def execStuckTimeout (s : State) : Host.Outcome State Fault Refusal :=
  match s.arbiter.recovering with
  | some t => if readyMicros ≤ t then .next (enterFault .stuck s) else .next s
  | none => .next s

/-- FLASH_READY_AFTER_TIMEOUT (R161). -/
def execFlashReadyAfterTimeout (s : State) : Host.Outcome State Fault Refusal :=
  match s.arbiter.recovering with
  | some t =>
    if t ≤ readyMicros then .next (s.modArbiter (fun a => { a with recovering := none })) else .next s
  | none => .next s

/-! ### Notices of the player unit (R166, R167) -/

/-- TAKE_UP (R166). -/
def execTakeUp (s : State) : Host.Outcome State Fault Refusal :=
  match s.takeNotice .player .store with
  | some (.takeUp _ prompt, s') => .next (storeTakesUp prompt s')
  | _ => .next s

/-- LET_GO (R166, R168). -/
def execLetGo (s : State) : Host.Outcome State Fault Refusal :=
  match s.takeNotice .player .store with
  | some (.letGo _ music prompt, s') => .next (storeLetsGo music prompt s')
  | _ => .next s

/-- ENTRY_JOINED (R166). -/
def execEntryJoined (s : State) : Host.Outcome State Fault Refusal :=
  match s.takeNotice .player .store with
  | some (.entryJoined prompt, s') => .next (s'.modEntry prompt (fun e => { e with queueRefs := e.queueRefs + 1 }))
  | _ => .next s

/-- ENTRY_LEFT (R166, R168). -/
def execEntryLeft (s : State) : Host.Outcome State Fault Refusal :=
  match s.takeNotice .player .store with
  | some (.entryLeft prompt, s') =>
    .next (maybeErase prompt (s'.modEntry prompt (fun e => { e with queueRefs := e.queueRefs - 1 })))
  | _ => .next s

/-- RETIRE_ACK (R167, R168). -/
def execRetireAck (s : State) : Host.Outcome State Fault Refusal :=
  match s.takeNotice .player .store with
  | some (.retireAck prompt, s') =>
    .next (maybeErase prompt (s'.modEntry prompt (fun e => { e with retireAcked := true })))
  | _ => .next s

end Sys2Proof.Machine
end

