-- ==== Sys2Proof/Machine/Dispatch.lean ====
section
/-!
DEFINITION. What each command does: one arm for each row of spec/opcode_table.json, each one call of that row's meaning.
-/

namespace Sys2Proof.Machine

def exec (i : Instr) (s : State) : Host.Outcome State Fault Refusal :=
  match i with
  | .reset cause torn => Sys2Proof.Machine.execReset cause torn s
  | .portWrite port msg => Sys2Proof.Machine.execPortWrite port msg s
  | .transactionAborted port msg => Sys2Proof.Machine.execTransactionAborted port msg s
  | .ignoredTransaction port bytes => Sys2Proof.Machine.execIgnoredTransaction port bytes s
  | .portRead port clocks => Sys2Proof.Machine.execPortRead port clocks s
  | .unknownRequest port slot => Sys2Proof.Machine.execUnknownRequest port slot s
  | .bindCall port slot => Sys2Proof.Machine.execBindCall port slot s
  | .hold port slot => Sys2Proof.Machine.execHold port slot s
  | .setHold port slot => Sys2Proof.Machine.execSetHold port slot s
  | .unhold port slot => Sys2Proof.Machine.execUnhold port slot s
  | .clear port slot => Sys2Proof.Machine.execClear port slot s
  | .setMute port slot => Sys2Proof.Machine.execSetMute port slot s
  | .setPosition port slot => Sys2Proof.Machine.execSetPosition port slot s
  | .setEcho port slot => Sys2Proof.Machine.execSetEcho port slot s
  | .setSuppressor port slot => Sys2Proof.Machine.execSetSuppressor port slot s
  | .setLink port slot => Sys2Proof.Machine.execSetLink port slot s
  | .linkEnable port slot => Sys2Proof.Machine.execLinkEnable port slot s
  | .linkDisable port slot => Sys2Proof.Machine.execLinkDisable port slot s
  | .linkRetrain port slot => Sys2Proof.Machine.execLinkRetrain port slot s
  | .whisper port slot => Sys2Proof.Machine.execWhisper port slot s
  | .cancelWhisper port slot => Sys2Proof.Machine.execCancelWhisper port slot s
  | .setCoachSource port slot => Sys2Proof.Machine.execSetCoachSource port slot s
  | .attachCoach port slot => Sys2Proof.Machine.execAttachCoach port slot s
  | .setCoachMode port slot => Sys2Proof.Machine.execSetCoachMode port slot s
  | .detachCoach port slot => Sys2Proof.Machine.execDetachCoach port slot s
  | .setMusic port slot => Sys2Proof.Machine.execSetMusic port slot s
  | .stopMusic port slot => Sys2Proof.Machine.execStopMusic port slot s
  | .releaseMusic port slot => Sys2Proof.Machine.execReleaseMusic port slot s
  | .loadOpen port slot => Sys2Proof.Machine.execLoadOpen port slot s
  | .loadData port slot => Sys2Proof.Machine.execLoadData port slot s
  | .loadCommit port slot => Sys2Proof.Machine.execLoadCommit port slot s
  | .loadAbandon port slot => Sys2Proof.Machine.execLoadAbandon port slot s
  | .retirePrompt port slot => Sys2Proof.Machine.execRetirePrompt port slot s
  | .queryPosition port slot => Sys2Proof.Machine.execQueryPosition port slot s
  | .queryPlayer port slot => Sys2Proof.Machine.execQueryPlayer port slot s
  | .queryPrompt port slot => Sys2Proof.Machine.execQueryPrompt port slot s
  | .listPrompts port slot => Sys2Proof.Machine.execListPrompts port slot s
  | .storeStatus port slot => Sys2Proof.Machine.execStoreStatus port slot s
  | .identify port slot => Sys2Proof.Machine.execIdentify port slot s
  | .readStore port slot => Sys2Proof.Machine.execReadStore port slot s
  | .readNext port slot => Sys2Proof.Machine.execReadNext port slot s
  | .setCharter port slot => Sys2Proof.Machine.execSetCharter port slot s
  | .subscribe port slot => Sys2Proof.Machine.execSubscribe port slot s
  | .eventOffer src => Sys2Proof.Machine.execEventOffer src s
  | .syncPulse rx => Sys2Proof.Machine.execSyncPulse rx s
  | .misplacedSync late bits rx => Sys2Proof.Machine.execMisplacedSync late bits rx s
  | .syncMiss rx => Sys2Proof.Machine.execSyncMiss rx s
  | .syncLost => Sys2Proof.Machine.execSyncLost s
  | .syncRestored rx => Sys2Proof.Machine.execSyncRestored rx s
  | .frameBoundary => Sys2Proof.Machine.execFrameBoundary s
  | .slotRelease p => Sys2Proof.Machine.execSlotRelease p s
  | .upstreamFrame p bits => Sys2Proof.Machine.execUpstreamFrame p bits s
  | .downstreamFrame p => Sys2Proof.Machine.execDownstreamFrame p s
  | .presenceSample p plugged => Sys2Proof.Machine.execPresenceSample p plugged s
  | .presenceSenseChange p => Sys2Proof.Machine.execPresenceSenseChange p s
  | .negotiationStart p => Sys2Proof.Machine.execNegotiationStart p s
  | .attemptTimeout p => Sys2Proof.Machine.execAttemptTimeout p s
  | .errorWindowRenew p => Sys2Proof.Machine.execErrorWindowRenew p s
  | .linkCallStarted p => Sys2Proof.Machine.execLinkCallStarted p s
  | .linkCallEnded p => Sys2Proof.Machine.execLinkCallEnded p s
  | .absenceGraceNotice p => Sys2Proof.Machine.execAbsenceGraceNotice p s
  | .absenceTimeout p => Sys2Proof.Machine.execAbsenceTimeout p s
  | .absenceExpiry p => Sys2Proof.Machine.execAbsenceExpiry p s
  | .returnNotice p => Sys2Proof.Machine.execReturnNotice p s
  | .muteButtonEdge p => Sys2Proof.Machine.execMuteButtonEdge p s
  | .whisperGrantedNotice p => Sys2Proof.Machine.execWhisperGrantedNotice p s
  | .whisperEndNotice p => Sys2Proof.Machine.execWhisperEndNotice p s
  | .announceGrantedNotice p => Sys2Proof.Machine.execAnnounceGrantedNotice p s
  | .announceEndNotice p => Sys2Proof.Machine.execAnnounceEndNotice p s
  | .subscriptionRefused p => Sys2Proof.Machine.execSubscriptionRefused p s
  | .announceDueNotice p => Sys2Proof.Machine.execAnnounceDueNotice p s
  | .attachClaim p => Sys2Proof.Machine.execAttachClaim p s
  | .detachNotice p => Sys2Proof.Machine.execDetachNotice p s
  | .attachAccept p => Sys2Proof.Machine.execAttachAccept p s
  | .attachRefusal p => Sys2Proof.Machine.execAttachRefusal p s
  | .coachCallStarted p => Sys2Proof.Machine.execCoachCallStarted p s
  | .coachCallEnded p => Sys2Proof.Machine.execCoachCallEnded p s
  | .coachFrame => Sys2Proof.Machine.execCoachFrame s
  | .echoCallStarted p => Sys2Proof.Machine.execEchoCallStarted p s
  | .echoCallEnded p => Sys2Proof.Machine.execEchoCallEnded p s
  | .echoPresenceLost p => Sys2Proof.Machine.execEchoPresenceLost p s
  | .echoFrame => Sys2Proof.Machine.execEchoFrame s
  | .suppCallStarted p => Sys2Proof.Machine.execSuppCallStarted p s
  | .suppCallEnded p => Sys2Proof.Machine.execSuppCallEnded p s
  | .suppPresenceLost p => Sys2Proof.Machine.execSuppPresenceLost p s
  | .lanesNotice p => Sys2Proof.Machine.execLanesNotice p s
  | .mixStateChange p => Sys2Proof.Machine.execMixStateChange p s
  | .mixFrame => Sys2Proof.Machine.execMixFrame s
  | .holdStart p => Sys2Proof.Machine.execHoldStart p s
  | .holdChange p => Sys2Proof.Machine.execHoldChange p s
  | .holdStop p => Sys2Proof.Machine.execHoldStop p s
  | .holdFrame => Sys2Proof.Machine.execHoldFrame s
  | .holdLimit p => Sys2Proof.Machine.execHoldLimit p s
  | .announceDue p => Sys2Proof.Machine.execAnnounceDue p s
  | .whisperRequest p => Sys2Proof.Machine.execWhisperRequest p s
  | .announceRequest p => Sys2Proof.Machine.execAnnounceRequest p s
  | .whisperCancel p => Sys2Proof.Machine.execWhisperCancel p s
  | .announceEnd p => Sys2Proof.Machine.execAnnounceEnd p s
  | .subscription p => Sys2Proof.Machine.execSubscription p s
  | .unsubscription p => Sys2Proof.Machine.execUnsubscription p s
  | .playerClearRelease p => Sys2Proof.Machine.execPlayerClearRelease p s
  | .whisperLimitNotice p => Sys2Proof.Machine.execWhisperLimitNotice p s
  | .retireNotice => Sys2Proof.Machine.execRetireNotice s
  | .storeFaultNotice => Sys2Proof.Machine.execStoreFaultNotice s
  | .fetchDelivery => Sys2Proof.Machine.execFetchDelivery s
  | .playerFrame => Sys2Proof.Machine.execPlayerFrame s
  | .whisperCut k => Sys2Proof.Machine.execWhisperCut k s
  | .connectWaitLimit p => Sys2Proof.Machine.execConnectWaitLimit p s
  | .statusReady => Sys2Proof.Machine.execStatusReady s
  | .startTimeout => Sys2Proof.Machine.execStartTimeout s
  | .stuckTimeout => Sys2Proof.Machine.execStuckTimeout s
  | .scanRead => Sys2Proof.Machine.execScanRead s
  | .arbiterStart => Sys2Proof.Machine.execArbiterStart s
  | .eraseSuspend left => Sys2Proof.Machine.execEraseSuspend left s
  | .storeReadDone => Sys2Proof.Machine.execStoreReadDone s
  | .programDone left => Sys2Proof.Machine.execProgramDone left s
  | .programTimeout left => Sys2Proof.Machine.execProgramTimeout left s
  | .eraseDone => Sys2Proof.Machine.execEraseDone s
  | .eraseTimeout left => Sys2Proof.Machine.execEraseTimeout left s
  | .loadIdleTimeout => Sys2Proof.Machine.execLoadIdleTimeout s
  | .takeUp => Sys2Proof.Machine.execTakeUp s
  | .letGo => Sys2Proof.Machine.execLetGo s
  | .entryJoined => Sys2Proof.Machine.execEntryJoined s
  | .entryLeft => Sys2Proof.Machine.execEntryLeft s
  | .retireAck => Sys2Proof.Machine.execRetireAck s
  | .flashReadyAfterTimeout => Sys2Proof.Machine.execFlashReadyAfterTimeout s

end Sys2Proof.Machine
end

