-- ==== Sys2Proof/Safety.lean ====
section
/-!
DEFINITION. What a sound state of the part is, block by block, and the words the claims are written in: when a request may be
taken, how it is answered, and what one step keeps.
-/

namespace Sys2Proof.Machine

/-! ### Requests -/

/-- The port, the slot and the request code of a request command. -/
def requestOf? : Instr → Option (PortId × ReqSlot × ReqCode)
  | .bindCall x i => some (x, i, .bindCall)
  | .hold x i => some (x, i, .hold)
  | .setHold x i => some (x, i, .setHold)
  | .unhold x i => some (x, i, .unhold)
  | .clear x i => some (x, i, .clear)
  | .setMute x i => some (x, i, .setMute)
  | .setPosition x i => some (x, i, .setPosition)
  | .setEcho x i => some (x, i, .setEcho)
  | .setSuppressor x i => some (x, i, .setSuppressor)
  | .setLink x i => some (x, i, .setLink)
  | .linkEnable x i => some (x, i, .linkEnable)
  | .linkDisable x i => some (x, i, .linkDisable)
  | .linkRetrain x i => some (x, i, .linkRetrain)
  | .whisper x i => some (x, i, .whisper)
  | .cancelWhisper x i => some (x, i, .cancelWhisper)
  | .setCoachSource x i => some (x, i, .setCoachSource)
  | .attachCoach x i => some (x, i, .attachCoach)
  | .setCoachMode x i => some (x, i, .setCoachMode)
  | .detachCoach x i => some (x, i, .detachCoach)
  | .setMusic x i => some (x, i, .setMusic)
  | .stopMusic x i => some (x, i, .stopMusic)
  | .releaseMusic x i => some (x, i, .releaseMusic)
  | .loadOpen x i => some (x, i, .loadOpen)
  | .loadData x i => some (x, i, .loadData)
  | .loadCommit x i => some (x, i, .loadCommit)
  | .loadAbandon x i => some (x, i, .loadAbandon)
  | .retirePrompt x i => some (x, i, .retirePrompt)
  | .queryPosition x i => some (x, i, .queryPosition)
  | .queryPlayer x i => some (x, i, .queryPlayer)
  | .queryPrompt x i => some (x, i, .queryPrompt)
  | .listPrompts x i => some (x, i, .listPrompts)
  | .storeStatus x i => some (x, i, .storeStatus)
  | .identify x i => some (x, i, .identify)
  | .readStore x i => some (x, i, .readStore)
  | .readNext x i => some (x, i, .readNext)
  | .setCharter x i => some (x, i, .setCharter)
  | .subscribe x i => some (x, i, .subscribe)
  | .reset .. | .portWrite .. | .transactionAborted .. | .ignoredTransaction .. | .portRead .. | .unknownRequest ..
  | .eventOffer .. | .syncPulse .. | .misplacedSync .. | .syncMiss .. | .syncLost | .syncRestored .. | .frameBoundary
  | .slotRelease .. | .upstreamFrame .. | .downstreamFrame .. | .presenceSample .. | .presenceSenseChange ..
  | .negotiationStart .. | .attemptTimeout .. | .errorWindowRenew .. | .linkCallStarted .. | .linkCallEnded ..
  | .absenceGraceNotice .. | .absenceTimeout .. | .absenceExpiry .. | .returnNotice .. | .muteButtonEdge ..
  | .whisperGrantedNotice .. | .whisperEndNotice .. | .announceGrantedNotice .. | .announceEndNotice ..
  | .subscriptionRefused .. | .announceDueNotice .. | .attachClaim .. | .detachNotice .. | .attachAccept ..
  | .attachRefusal .. | .coachCallStarted .. | .coachCallEnded .. | .coachFrame | .echoCallStarted .. | .echoCallEnded ..
  | .echoPresenceLost .. | .echoFrame | .suppCallStarted .. | .suppCallEnded .. | .suppPresenceLost .. | .lanesNotice ..
  | .mixStateChange .. | .mixFrame | .holdStart .. | .holdChange .. | .holdStop .. | .holdFrame | .holdLimit ..
  | .announceDue .. | .whisperRequest .. | .announceRequest .. | .whisperCancel .. | .announceEnd .. | .subscription ..
  | .unsubscription .. | .playerClearRelease .. | .whisperLimitNotice .. | .retireNotice | .storeFaultNotice
  | .fetchDelivery | .playerFrame | .whisperCut .. | .connectWaitLimit .. | .statusReady | .startTimeout | .stuckTimeout
  | .scanRead | .arbiterStart | .eraseSuspend .. | .storeReadDone | .programDone .. | .programTimeout .. | .eraseDone
  | .eraseTimeout .. | .loadIdleTimeout | .takeUp | .letGo | .entryJoined | .entryLeft | .retireAck
  | .flashReadyAfterTimeout => none

/-- R184: the request of code `c` in a slot passes the port controller's checks and may be taken by its owner now, with this
payload. -/
def State.admits (s : State) (port : PortId) (i : ReqSlot) (c : ReqCode) (payload : List Byte) : Prop :=
  (s.port port).admission i c = .carried payload

/-- R184: the port of `t` is that of `s` with the slot's response queued, and the other port is as it was. -/
def Answered (s t : State) (port : PortId) (i : ReqSlot) (st : Status) (payload : List Byte) : Prop :=
  t.port port = ((s.port port).carryBefore i).respond i st payload ∧ t.port (otherPort port) = s.port (otherPort port)

/-- The notices `after` are the notices `before` with those that the block `src` has handed to each other block behind them;
nothing is said of the order of notices to different blocks, which have none (R3). -/
def Hands (before after : List Notice) (src : Block) (f : Block → List Tidings) : Prop :=
  (∀ dst, noticesBetween src dst after = noticesBetween src dst before ++ f dst) ∧
    (∀ other dst, other ≠ src → noticesBetween other dst after = noticesBetween other dst before)

/-- The oldest notice from one block to another is `x`, and these remain once it is taken (R3). -/
def State.finds (s : State) (src dst : Block) (x : Tidings) (rest : List Notice) : Prop :=
  firstNotice src dst s.notices = some (x, rest)

/-- The events of `t` are those of `s` with these, of the block `src`, behind them, stamped with the frame counter of `s`
(R30). -/
def Raises (s t : State) (src : Block) (es : List Event) : Prop :=
  t.raised = s.raised ++ es.map (fun e => { src := src, stamp := s.highway.frameCounter, event := e })

/-! ### Sound states -/

/-- The flash contents stand in their canonical form. -/
def State.flashSound (s : State) : Prop := Memory.wf s.flash = true

/-- R1: the fields of a position record that are present agree with its call state. -/
structure PosRec.Sound (r : PosRec) : Prop where
  holdCause : r.holdCause.isSome ↔ r.callState = .held
  rxSlot : r.rxSlot.isSome ↔ r.callState ≠ .idle
  txSlot : r.txSlot.isSome ↔ r.callState ≠ .idle
  preconnectPlayer : r.preconnectPlayer.isSome → r.callState = .preconnect
  connectWhisper : r.whisper.any (fun w => decide (w.kind = .connect)) = true ↔ r.callState = .preconnect
  whisper : r.callState = .idle → r.whisper = none
  announcement : r.announcement.isSome → r.callState = .held
  coach : r.callState = .idle → r.coach = none
  agentAbsent : r.callState = .idle → r.agentAbsent = false

/-- R1: every position record is sound. -/
def State.recordsSound (s : State) : Prop := ∀ p : Pos, (s.pos p).Sound

/-- R40: the fields of a link record lie within their ranges, and four failed attempts leave the link FAILED (R45). -/
structure LinkRec.Sound (r : LinkRec) : Prop where
  lanes : r.lanes = 1 ∨ r.lanes = 2
  maxLanes : r.maxLanes = 1 ∨ r.maxLanes = 2
  selected : ∀ n, r.selected = some n → n = 1 ∨ n = 2
  lastOffer : ∀ n, r.lastOffer = some n → n = 1 ∨ n = 2
  senseRun : r.senseRun ≤ 63
  attemptFrames : r.attemptFrames ≤ 800
  retryCount : r.retryCount ≤ 4
  failed : r.retryCount = 4 → r.linkState = .failed

/-- R40: every link record is sound. -/
def State.linksSound (s : State) : Prop := ∀ p : Pos, (s.link p).Sound

/-- The tap blocks that the cancellers hold, position by position. -/
def State.heldBlocks (s : State) : List (Fin 128) :=
  allPos.flatMap (fun p => (s.canc ⟨p, .line⟩).blocks ++ (s.canc ⟨p, .acoustic⟩).blocks)

/-- R73: every block of the tap pool is on the free list or held by one canceller, and nowhere twice. -/
def State.poolSound (s : State) : Prop := (s.heldBlocks ++ s.echo.free).Perm (List.finRange 128)

/-- R62: every tap lies within its range. -/
def State.tapsSound (s : State) : Prop :=
  ∀ b : Fin 128, ∀ h ∈ look s.echo.taps b, -8388608 ≤ h ∧ h ≤ 8388607

/-- R58, R60, R62, R73, R74: the filters and the tap lists: each block holds 64 taps and each history its full count of samples; a
canceller asks for no more than its greatest tail, holds no more blocks than it asks for, and none while its position is not bound
or its mode is OFF; it waits, once, exactly while it is short; and the free list ascends and is empty while one waits. -/
structure State.FiltersSound (s : State) : Prop where
  taps : ∀ b : Fin 128, (look s.echo.taps b).length = 64
  line : ∀ p : Pos, (s.canc ⟨p, .line⟩).history.length = 1088 ∧ (s.canc ⟨p, .line⟩).requested ≤ 16
  acoustic : ∀ p : Pos, (s.canc ⟨p, .acoustic⟩).history.length = 320 ∧ (s.canc ⟨p, .acoustic⟩).requested ≤ 4
  tail : ∀ i : CancId, (s.canc i).blocks.length ≤ (s.canc i).requested
  idle : ∀ i : CancId, look s.echo.bound i.pos = false ∨ (s.canc i).mode = .off → (s.canc i).blocks = []
  waits : ∀ i : CancId, i ∈ s.echo.waiting ↔
    look s.echo.bound i.pos = true ∧ (s.canc i).mode ≠ .off ∧ (s.canc i).blocks.length < (s.canc i).requested
  once : s.echo.waiting.Nodup
  ascending : s.echo.free.Pairwise (fun a b => a.val ≤ b.val)
  noneFree : s.echo.waiting ≠ [] → s.echo.free = []

/-- R84: the frames that the echo unit has handed the mixer have 64 samples. -/
def State.framesSound (s : State) : Prop :=
  ∀ (p : Pos) (o : EchoOut), look s.bus.echoOut p = some o → o.customer.length = 64 ∧ o.residual.length = 64

/-- R119: no hold count passes its greatest value. -/
def State.countsSound (s : State) : Prop := ∀ p : Pos, (s.seq p).elapsed ≤ 16777215

/-- R186: "The CALL group and the STORE group are each in the current charter of at most one port." -/
def State.chartersSound (s : State) : Prop :=
  ¬(s.portA.charter.call = true ∧ s.portB.charter.call = true) ∧
    ¬(s.portA.charter.store = true ∧ s.portB.charter.store = true)

/-- R183, R184, R188: what a port holds: each slot whose request waits stands at most once in the order of intake and is no
response; the order of responses names exactly the slots that hold one; at most 32 events wait, and the counts of lost
events are within their ranges. -/
structure Port.Sound (x : Port) : Prop where
  intake : x.intake.Nodup
  waits : ∀ i ∈ x.intake, ∃ tag code payload carried, look x.slots i = .request tag code payload carried
  answered : x.answered.Nodup
  responses : ∀ i, i ∈ x.answered ↔ ∃ r, look x.slots i = .response r
  events : x.events.length ≤ 32
  lost : x.lost ≤ 65535
  lostFaults : x.lostFaults ≤ 255

/-- Both ports are sound. -/
def State.portsSound (s : State) : Prop := s.portA.Sound ∧ s.portB.Sound

/-- R162, R179: the slots of the port's reads that the arbiter has still to end, the one in progress first. -/
def State.readsAt (s : State) (port : PortId) : List ReqSlot :=
  let running := match s.arbiter.current with
    | some (.read r) => [r]
    | _ => []
  ((portReads (running ++ s.arbiter.reads)).filter (fun r => decide (r.1 = port))).map (fun r => r.2)

/-- R113: the slots of the port's ATTACH_COACH requests that wait for the record's answer. -/
def State.attachesAt (s : State) (port : PortId) : List ReqSlot :=
  (List.finRange 4).filterMap (fun c =>
    ((s.source c).attaching.filter (fun a => decide (a.port = port))).map (fun a => a.slot))

/-- R16: the slots of the port's CLEAR requests whose slot release is on its way. -/
def State.clearsAt (s : State) (port : PortId) : List ReqSlot :=
  s.notices.filterMap (fun n =>
    match n.tidings with
    | .slotRelease x i => if x = port then some i else none
    | _ => none)

/-- The slots of the port's requests that their owners have taken and not yet answered. -/
def State.deferredAt (s : State) (port : PortId) : List ReqSlot :=
  (s.port port).reads.map (fun r => r.1) ++ s.attachesAt port ++ s.clearsAt port

/-- R16, R113, R179, R184: the requests of a port that their owners have taken and not yet answered: of its reads those accepted
are the ones the arbiter has still to end, in their order; no refused read stands at their head; and each of these requests holds
a slot of its own, which no longer waits for its owner. -/
structure State.DeferredSound (s : State) : Prop where
  accepted : ∀ port : PortId,
    ((s.port port).reads.filter (fun r => r.2.isNone)).map (fun r => r.1) = s.readsAt port
  head : ∀ (port : PortId) (i : ReqSlot) (st : Status), (s.port port).reads.head? ≠ some (i, some st)
  once : ∀ port : PortId, (s.deferredAt port).Nodup
  taken : ∀ port : PortId, ∀ i ∈ s.deferredAt port,
    i ∉ (s.port port).intake ∧ ∃ tag code payload carried, look (s.port port).slots i = .request tag code payload carried

/-- R162: the job queue holds at most 16 jobs. -/
def State.jobsSound (s : State) : Prop := s.arbiter.jobs.length ≤ 16

/-- A property that no step loses: from every state that has it, whatever command is taken. -/
def KeptByEveryStep (P : State → Prop) : Prop := ∀ s t : State, P s → step s = .next t → P t

end Sys2Proof.Machine
end

