-- ==== Sys2Proof/Certificates/Slice0/Obligations.lean ====
section
/-!
DEFINITION. The statements about the part, from the numbered rules of the manual: commands and ports, then chapter by
chapter, then what every step keeps.
-/

open Sys2Proof Sys2Proof.Machine

/-- R184: the command of a request in a slot queues its answer there, and does nothing else. -/
def Claim.onlyAnswers (s : State) (c : Instr) (port : PortId) (i : ReqSlot) (st : Status) (payload : List Byte) : Prop :=
  ∃ t, exec c s = .next t ∧ Answered s t port i st payload ∧ t = { s with portA := t.portA, portB := t.portB }

/-- A request is refused with a status and without a field, and changes nothing. -/
def Claim.refuses (s : State) (c : Instr) (port : PortId) (i : ReqSlot) (st : Status) : Prop :=
  Claim.onlyAnswers s c port i st []

/-- R157: a store-group request is refused before READY and in FAULT. -/
def Claim.refusedUnlessReady (s : State) (c : Instr) (port : PortId) (i : ReqSlot) : Prop :=
  (s.store.state = .starting ∨ s.store.state = .scanning → Claim.refuses s c port i .notReady) ∧
  (s.store.state = .fault → Claim.refuses s c port i .storeFault)

/-! ### Steps, and every command -/

/-- A command at the front of the queue is taken on the state with the queue's rest. -/
def Obligations.StepTakesTheFront : Prop :=
  (∀ (c : Instr) (s : State), step (s.withFront c) = exec c s) ∧
  (∀ (c : Instr) (rest : List Instr) (s : State), s.pending = c :: rest → step s = exec c { s with pending := rest })

/-- On an empty queue one microsecond of the local clock passes (assumption 1, a DESIGN CHOICE): the absence timers and the
load idle timer run down to 0 (R55, R171), the store timer counts (R157, R161, R163, R164), in LOST the duration of the loss
(lossMicros) rises (R34), and nothing else changes. -/
def Obligations.IdleStepIsOneMicrosecond : Prop :=
  ∀ s : State, s.pending = [] →
    ∃ t, step s = .next t ∧
      t = { s with links := t.links, highway := t.highway, store := t.store, arbiter := t.arbiter } ∧
      (∀ p : Pos, t.link p = { s.link p with
        absenceTimer := match (s.link p).absenceTimer with
          | .running n => .running (n - 1)
          | other => other }) ∧
      t.highway = { s.highway with
        lossMicros := if s.highway.sync = .lost then s.highway.lossMicros + 1 else s.highway.lossMicros } ∧
      t.store = { s.store with
        session := s.store.session.map (fun x => { x with idle := x.idle.map (fun n => n - 1) })
        startMicros := if s.store.state = .starting then s.store.startMicros + 1 else s.store.startMicros } ∧
      t.arbiter = { s.arbiter with
        current := s.arbiter.current.map (fun o => match o with
          | .program addr bytes owner n => .program addr bytes owner (n + 1)
          | other => other)
        erase := s.arbiter.erase.map (fun e => if e.suspended then e else { e with micros := e.micros + 1 })
        recovering := s.arbiter.recovering.map (fun n => n + 1) }

/-- Every command answers a next state in every state, and none touches the queue of commands. That a command whose occasion
is not there still answers one is the model's choice (assumption 3), and so is the queue, which not even RESET touches
(assumptions 7 and 33). -/
def Obligations.EveryCommandCompletes : Prop :=
  ∀ (c : Instr) (s : State), ∃ t, exec c s = .next t ∧ t.pending = s.pending

/-! ### Reset (R2, R189) -/

/-- R189: what the port controller holds at each port at the end of a reset, the RESTART event queued as its first act. -/
def Obligations.ResetLeavesThePorts : Prop :=
  ∀ (cause : ResetCause) (torn : List Byte) (s : State),
    ∃ t, exec (.reset cause torn) s = .next t ∧
      (∀ port : PortId, (∀ i : ReqSlot, look (t.port port).slots i = .empty) ∧ (t.port port).intake = [] ∧
        (t.port port).answered = [] ∧ (t.port port).latched = false ∧
        (t.port port).events = [{ seq := 0, stamp := 0, event := .restart cause }] ∧ (t.port port).seq = 1 ∧
        (t.port port).overflow = false ∧ (t.port port).lost = 0 ∧ (t.port port).lostFaults = 0 ∧
        (t.port port).readCursor = 0 ∧ (t.port port).attention = true) ∧
      t.portA.charter = { call := true, station := true, coach := false, store := false } ∧
      t.portB.charter = { call := false, station := false, coach := true, store := true } ∧
      t.portA.subs = { call := true, station := true, signal := true, playback := true, coach := false, store := false,
                       fault := true } ∧
      t.portB.subs = { call := false, station := false, signal := false, playback := true, coach := true, store := true,
                       fault := true } ∧
      t.resetCause = cause

/-- R2: what a reset leaves in the position records, with the counters of R103 and R120, and in the sequencer records (R119),
the player records (R134), the wait queue and the whisper limits that the player unit keeps (R104). -/
def Claim.ResetLeavesTheRecords : Prop :=
  ∀ (cause : ResetCause) (torn : List Byte) (s : State),
    ∃ t, exec (.reset cause torn) s = .next t ∧
      (∀ p : Pos, t.pos p =
        { callState := .idle, holdCause := none, callSerial := 0, rxSlot := none, txSlot := none,
          preconnectPlayer := none, holdPlayer := none, announcePrompt := none, announceInterval := 60,
          announceAtStart := false, holdLimit := 0, mute := false, agentAbsent := false, whisper := none,
          announcement := none, coach := none, earLevel := 16384, sendLevel := 16384, duckDepth := 4096,
          whisperEar := .left, absenceGrace := 500, absenceHold := true, autoResume := true, whisperLimit := 10,
          connectWaitLimit := 2, lastHoldFrames := 0, whisperCounter := 0, holdNumber := 0, announceCounter := 0 }) ∧
      (∀ p : Pos, t.seq p =
        { counting := false, elapsed := 0, nextAnnounce := none, interval := none, announceOn := false, limit := none,
          limitReported := false, callSerial := 0, holdNumber := 0 }) ∧
      (∀ k : PlayerNo, t.player k = { t.player k with
          role := .pool, state := .idle, prompt := none, cursor := 0, fetchOffset := 0, level := 0, buffer := [],
          fetch := .none, subscribers := [], assignment := none, playedFrames := 0, underrunEpisode := false,
          underrunCount := 0 }) ∧
      t.playerUnit.queue = [] ∧ t.playerUnit.fault = false ∧ ∀ p : Pos, look t.playerUnit.limits p = 10

/-- R25, R26, R30, R31, R35, R40, R58, R73, R74, R83, R92, R93, R111, R153, R154, R157, R162, R165, R171: what a reset leaves in the
slot map, the highway interface, the link records, the cancellers and the tap pool, the suppressor and mix records, the coach
sources and the store controller, with nothing on its way between them and no read still to be answered (assumption 47). The
highway's miss count at 0 is the model's choice (assumption 42). The flash keeps its contents but for the bytes of a program or of
the sector of an erase that the reset cuts off (R152), which hold what the outside leaves there (assumption 26); and the commands
that wait stay (a DESIGN CHOICE, assumption 7). -/
def Claim.ResetLeavesTheBlocks : Prop :=
  ∀ (cause : ResetCause) (torn : List Byte) (s : State),
    ∃ t, exec (.reset cause torn) s = .next t ∧
      (∀ n : Timeslot, look t.slotMap.rx n = .unbound ∧ look t.slotMap.tx n = .unbound ∧
        look t.highway.txPins n = none) ∧
      t.highway.sync = .acquiring ∧ t.highway.goodCount = 0 ∧ t.highway.missCount = 0 ∧ t.highway.frameCounter = 0 ∧
      (∀ p : Pos, t.link p = { t.link p with
        linkState := .detect, present := false, senseRun := 0, lanes := 1, maxLanes := 2, phase := none,
        selected := none, lastOffer := none, attemptFrames := 0, retryCount := 0, windowStart := 0, errorCount := 0,
        retrainRequested := false, autonomous := false, lanesBefore := 1, lastGoodMic := 0, callBound := false,
        callSerial := 0, grace := 500, absenceTimer := .stopped }) ∧
      (∀ p : Pos,
        t.canc ⟨p, .line⟩ =
          { mode := .adapt, requested := 6, blocks := [], stepCode := 2, dtCode := 1, hangover := 8, hangoverCount := 0,
            pAct := 4000, divergence := 0, erle := 0, history := List.replicate 1088 0 } ∧
        t.canc ⟨p, .acoustic⟩ =
          { mode := .adapt, requested := 2, blocks := [], stepCode := 3, dtCode := 3, hangover := 8, hangoverCount := 0,
            pAct := 4000, divergence := 0, erle := 0, history := List.replicate 320 0 } ∧
        look t.echo.bound p = false ∧ look t.echo.resetMark p = false) ∧
      t.echo.free = List.finRange 128 ∧ t.echo.waiting = [] ∧
      (∀ p : Pos, look t.supp p =
        { noiseFloor := 0, gain := 16384, alphaQ := 8, gMin := 2063, nlp := true, nlpEngaged := false,
          cnRegister := BitVec.ofNat 16 (4096 + p.val), floorReset := false, bound := false }) ∧
      (∀ p : Pos, look t.mix p = { look t.mix p with
        copies := { callState := .idle, mute := false, earLevel := 16384, sendLevel := 16384, duckDepth := 4096,
                    whisperEar := .left }
        lanes := 1, sendAgent := 0, sendCoach := 0, sendAnnounce := 0, sendMusic := Vector.replicate 6 0,
        earCustomer := 0, earConnect := 0, earRecorded := 0, earCoach := 0, duck := 16384 }) ∧
      (∀ c : Source, t.source c =
        { rxSlot := none, txSlot := none, attachment := .unattached, position := none, callSerial := 0,
          mode := .monitor, level := 16384, voiceActive := false, voiceHangover := 0, attaching := none }) ∧
      (∀ p : Pos, look t.coach.serials p = 0) ∧
      t.store.state = .starting ∧ t.store.cause = none ∧ (∀ n : Fin 4096, look t.store.sectors n = .free) ∧
      t.store.catalogue = [] ∧ t.store.session = none ∧ t.store.eraseList = [] ∧ t.store.owedMarker = none ∧
      t.store.startMicros = 0 ∧
      t.arbiter = { current := none, erase := none, fetches := [], reads := [], jobs := [], pointer := 5,
                    recovering := none } ∧
      t.notices = [] ∧ t.raised = [] ∧ t.portA.reads = [] ∧ t.portB.reads = [] ∧ t.pending = s.pending ∧
      ((s.arbiter.current = none ∨ (∃ r, s.arbiter.current = some (.fetch r)) ∨ ∃ r, s.arbiter.current = some (.read r)) →
        s.arbiter.erase = none → t.flash = s.flash) ∧
      (∀ (addr : Nat) (bytes : List Byte) (owner : JobOwner) (micros : Nat), Memory.wf s.flash = true →
        s.arbiter.current = some (.program addr bytes owner micros) → s.arbiter.erase = none →
        ∀ x, t.flash.read x =
          if addr ≤ x ∧ x < addr + bytes.length then torn.getD (x - addr) (s.flash.read x) else s.flash.read x) ∧
      (∀ e : EraseOp, Memory.wf s.flash = true → s.arbiter.erase = some e →
        (∀ addr bytes owner micros, s.arbiter.current ≠ some (.program addr bytes owner micros)) →
        ∀ x, t.flash.read x =
          if e.sector * 4096 ≤ x ∧ x < e.sector * 4096 + 4096 then torn.getD (x - e.sector * 4096) (s.flash.read x)
          else s.flash.read x)

/-! ### Transactions (R180, R183, R185) -/

/-- R183: a well-formed request message that finds an empty slot is taken into the lowest-numbered one; the intake answer
carries OK, the tag and the slots then in use, and zeros follow it (R180). `extra` is what the master sends after the message, on
the three bytes of the answer and beyond; the answer's bytes are clocked whether they are listed or not (assumption 31). -/
def Claim.WriteIsTakenIn : Prop :=
  ∀ (port : PortId) (s : State) (tag code : Byte) (payload extra : List Byte) (i : ReqSlot),
    payload.length ≤ 510 →
    look (s.port port).slots i = .empty →
    (∀ j : ReqSlot, j.val < i.val → look (s.port port).slots j ≠ .empty) →
    ∃ t, exec (.portWrite port ([0x01, tag] ++ bigEndian 2 (payload.length + 1) ++ code :: payload ++ extra)) s =
        .next t ∧
      t.port port = { s.port port with
        slots := put (s.port port).slots i (.request tag code payload false)
        intake := (s.port port).intake ++ [i]
        dataOut := [0, tag, byte ((s.port port).slotsInUse + 1)] ++ List.replicate (extra.length - 3) 0 } ∧
      t.port (otherPort port) = s.port (otherPort port) ∧ t = { s with portA := t.portA, portB := t.portB }

/-- R183: all four slots in use: the intake status is QUEUE_FULL, which "changes no slot and queues nothing". -/
def Claim.WriteFindsNoSlot : Prop :=
  ∀ (port : PortId) (s : State) (tag code : Byte) (payload extra : List Byte),
    payload.length ≤ 510 →
    (∀ j : ReqSlot, look (s.port port).slots j ≠ .empty) →
    exec (.portWrite port ([0x01, tag] ++ bigEndian 2 (payload.length + 1) ++ code :: payload ++ extra)) s =
      .next (s.setPort port { s.port port with dataOut := [1, tag, 4] ++ List.replicate (extra.length - 3) 0 })

/-- R180: a message whose kind byte is not REQUEST or whose length is 0 or above 511 is answered UNKNOWN after its first four
bytes and is not taken. -/
def Claim.MalformedWriteIsNotTaken : Prop :=
  ∀ (port : PortId) (s : State) (kind tag hi lo : Byte) (rest : List Byte),
    (kind ≠ 0x01 ∨ hi.toNat * 256 + lo.toNat = 0 ∨ 511 < hi.toNat * 256 + lo.toNat) →
    exec (.portWrite port (kind :: tag :: hi :: lo :: rest)) s =
      .next (s.setPort port { s.port port with
        dataOut := [15, tag, byte (s.port port).slotsInUse] ++ List.replicate (rest.length - 3) 0 })

/-- R180: a message cut off before its announced length, or within its header, is not taken and not answered, whatever the
transaction, and data out has then carried nothing (assumption 31); a transaction aborted during the intake answer leaves
the intake decision as it was made, and the bytes of the answer that were clocked, `extra` or `rest` in number, have been
sent; a transaction of no kind changes nothing and sends zeros. -/
def Claim.TransactionsWithoutAnswer : Prop :=
  (∀ (port : PortId) (s : State) (tag hi lo : Byte) (rest : List Byte),
    rest.length < hi.toNat * 256 + lo.toNat → hi.toNat * 256 + lo.toNat ≤ 511 →
    exec (.transactionAborted port (0x01 :: tag :: hi :: lo :: rest)) s =
        .next (s.setPort port { s.port port with dataOut := [] }) ∧
      exec (.portWrite port (0x01 :: tag :: hi :: lo :: rest)) s =
        .next (s.setPort port { s.port port with dataOut := [] })) ∧
  (∀ (port : PortId) (s : State) (msg : List Byte), msg.length < 4 →
    exec (.transactionAborted port msg) s = .next (s.setPort port { s.port port with dataOut := [] }) ∧
      exec (.portWrite port msg) s = .next (s.setPort port { s.port port with dataOut := [] })) ∧
  (∀ (port : PortId) (s t : State) (tag code : Byte) (payload extra : List Byte), payload.length ≤ 510 → extra.length < 3 →
    let msg := [0x01, tag] ++ bigEndian 2 (payload.length + 1) ++ code :: payload
    exec (.portWrite port msg) s = .next t →
    exec (.transactionAborted port (msg ++ extra)) s =
      .next (t.setPort port { t.port port with dataOut := (t.port port).dataOut.take extra.length })) ∧
  (∀ (port : PortId) (s t : State) (kind tag hi lo : Byte) (rest : List Byte),
    (kind ≠ 0x01 ∨ hi.toNat * 256 + lo.toNat = 0 ∨ 511 < hi.toNat * 256 + lo.toNat) → rest.length < 3 →
    exec (.portWrite port [kind, tag, hi, lo]) s = .next t →
    exec (.transactionAborted port (kind :: tag :: hi :: lo :: rest)) s =
      .next (t.setPort port { t.port port with dataOut := (t.port port).dataOut.take rest.length })) ∧
  (∀ (port : PortId) (s : State) (bytes : List Byte), bytes.headD 0 ≠ 0x01 → bytes.headD 0 ≠ 0x02 →
    exec (.ignoredTransaction port bytes) s =
      .next (s.setPort port { s.port port with dataOut := List.replicate bytes.length 0 }))

/-- R180, R185: a read sends the oldest waiting response, else the oldest event, else EMPTY, with zeros beyond its end; the
message leaves its queue when its last byte has been clocked out, and else stays at its head. -/
def Claim.ReadSendsTheFirstMessage : Prop :=
  ∀ (port : PortId) (clocks : Nat) (s : State),
    (∀ (i : ReqSlot) (rest : List ReqSlot) (r : Response),
      (s.port port).answered = i :: rest → look (s.port port).slots i = .response r →
      exec (.portRead port clocks) s = .next (s.setPort port
        (if (responseMessage r).length ≤ clocks then
          { s.port port with
            dataOut := responseMessage r ++ List.replicate (clocks - (responseMessage r).length) 0
            slots := put (s.port port).slots i .empty
            answered := rest }
        else { s.port port with dataOut := (responseMessage r).take clocks }))) ∧
    (∀ (e : QueuedEvent) (rest : List QueuedEvent),
      (s.port port).answered = [] → (s.port port).events = e :: rest →
      exec (.portRead port clocks) s = .next (s.setPort port
        (if (eventMessage e).length ≤ clocks then
          { s.port port with
            dataOut := eventMessage e ++ List.replicate (clocks - (eventMessage e).length) 0
            events := rest }
        else { s.port port with dataOut := (eventMessage e).take clocks }))) ∧
    ((s.port port).answered = [] → (s.port port).events = [] →
      exec (.portRead port clocks) s = .next (s.setPort port { s.port port with dataOut := List.replicate clocks 0 }))

/-- R185: a read that takes out the last waiting message releases the attention line. -/
def Claim.AttentionFallsWithTheLastMessage : Prop :=
  ∀ (port : PortId) (clocks : Nat) (s t : State),
    (s.port port).outbound.length ≤ clocks → (s.port port).answered.length + (s.port port).events.length = 1 →
    exec (.portRead port clocks) s = .next t → (s.port port).attention = true ∧ (t.port port).attention = false

/-! ### The port controller's checks (R184) -/

/-- R184, steps 2 to 4: a request in a slot, not yet carried, that the port controller comes to: outside the port's charter it
is answered CHARTER, with a payload that does not fit RANGE, whatever waits at its owner; else it is carried, and its owner
takes it once no earlier request of the port waits there. The ten query requests are open to both ports. -/
def Claim.CharterBeforePayload : Prop :=
  (∀ (x : Port) (i : ReqSlot) (c : ReqCode) (tag code : Byte) (payload : List Byte),
    look x.slots i = .request tag code payload false → codeOf code = some c → x.reaches i = true →
    x.admission i c =
      if x.charter.allows c = false then .refused .charter
      else if payloadFits c payload = false then .refused .range
      else if x.ownerFree i = true then .carried payload
      else .wait) ∧
  (∀ (g : Groups) (c : ReqCode), c ∈ [ReqCode.queryPosition, .queryPlayer, .queryPrompt, .listPrompts, .storeStatus,
      .readStore, .readNext, .identify, .setCharter, .subscribe] → g.allows c = true)

/-- R184: a request refused by the port controller is answered with that status, "reaches no owner, changes no state and
raises no event"; its response carries the position, the first byte of the payload, where the request is one of the position
table's (R5), and else has an empty payload (assumption 39). One that may not be taken yet waits (assumption 3). A
refused READ_STORE or READ_NEXT is answered behind the reads of its port that are still to be answered (R179; assumption 47). -/
def Obligations.RefusedRequestsReachNoOwner : Prop :=
  ∀ (c : Instr) (port : PortId) (i : ReqSlot) (code : ReqCode) (s : State), requestOf? c = some (port, i, code) →
    (∀ st, (s.port port).admission i code = .refused st →
      ∀ (tag n : Byte) (payload : List Byte) (carried : Bool), look (s.port port).slots i = .request tag n payload carried →
      let fields := if code ∈ [ReqCode.bindCall, .hold, .setHold, .unhold, .clear, .setMute, .setPosition, .queryPosition]
        then payload.take 1 else []
      ((code ≠ .readStore ∧ code ≠ .readNext) ∨ (s.port port).reads = [] →
        ∃ t, exec c s = .next t ∧ Answered s t port i st fields ∧ t = { s with portA := t.portA, portB := t.portB }) ∧
      ((code = .readStore ∨ code = .readNext) → (s.port port).reads ≠ [] →
        ∃ t, exec c s = .next t ∧
          t.port port = { ((s.port port).carryBefore i).defer i with reads := (s.port port).reads ++ [(i, some st)] } ∧
          t.port (otherPort port) = s.port (otherPort port) ∧ t = { s with portA := t.portA, portB := t.portB })) ∧
    ((s.port port).admission i code = .wait → exec c s = .next s)

/-- R184: "A response carries the request's tag and code, the status, and the payload that the request's rule names"; it is
queued in the request's slot, behind the responses that wait. -/
def Claim.ResponseKeepsTagAndCode : Prop :=
  ∀ (x : Port) (i : ReqSlot) (tag code : Byte) (payload body : List Byte) (carried : Bool) (st : Status),
    look x.slots i = .request tag code payload carried →
    let y := (x.carryBefore i).respond i st body
    look y.slots i = .response { tag := tag, code := code, status := st, payload := body } ∧
      y.answered = x.answered ++ [i] ∧ i ∉ y.intake ∧ (∀ j, j ≠ i → (j ∈ y.intake ↔ j ∈ x.intake)) ∧
      (∀ j, j ≠ i → look y.slots j = look x.slots j ∨ look y.slots j = (look x.slots j).markCarried) ∧
      y = { x with slots := y.slots, intake := y.intake, answered := y.answered }

/-- R184, step 1: "A request code that names no request of the part is answered UNKNOWN." Codes 0 and above 37 name none
(R182). That its response has an empty payload is the model's choice (assumption 39). -/
def Claim.UnknownCodeIsAnsweredUnknown : Prop :=
  ∀ (port : PortId) (i : ReqSlot) (s : State) (tag code : Byte) (payload : List Byte) (carried : Bool),
    look (s.port port).slots i = .request tag code payload carried → (code = 0 ∨ 37 < code.toNat) →
    (s.port port).reaches i = true →
    ∃ t, exec (.unknownRequest port i) s = .next t ∧ Answered s t port i .unknown [] ∧
      t = { s with portA := t.portA, portB := t.portB }

/-! ### Charters and subscriptions (R186, R187, R190) -/

/-- R186: the checks of SET_CHARTER in their order, and an accepted request. -/
def Claim.SetCharter : Prop :=
  ∀ (port : PortId) (i : ReqSlot) (s : State) (b : Byte), s.admits port i .setCharter [b] →
    let x := s.port port
    let y := s.port (otherPort port)
    let g : Groups := { call := b.getLsbD 0, station := b.getLsbD 1, coach := b.getLsbD 2, store := b.getLsbD 3 }
    ∃ t, exec (.setCharter port i) s = .next t ∧ t = { s with portA := t.portA, portB := t.portB } ∧ t.port (otherPort port) = y ∧
      t.port port =
        (if 16 ≤ b.toNat then (x.carryBefore i).respond i .range []
        else if x.latched then (x.carryBefore i).respond i .latched []
        else if (g.call = true ∧ y.charter.call = true) ∨ (g.store = true ∧ y.charter.store = true) then
          (x.carryBefore i).respond i .conflict []
        else { (x.carryBefore i).respond i .ok [b] with charter := g, latched := true })

/-- R187: SUBSCRIBE sets the sending port's flags as given and answers with all seven; it is refused RANGE when it names FAULT
or a class outside the seven. (One that names no class changes nothing, and the flags of classes not named are ignored:
assumption 30.) -/
def Claim.Subscribe : Prop :=
  ∀ (port : PortId) (i : ReqSlot) (s : State) (names flags : Byte), s.admits port i .subscribe [names, flags] →
    let x := s.port port
    let pick := fun (n : Nat) (old : Bool) => if names.getLsbD n then flags.getLsbD n else old
    let f : Flags := { call := pick 0 x.subs.call, station := pick 1 x.subs.station, signal := pick 2 x.subs.signal,
                       playback := pick 3 x.subs.playback, coach := pick 4 x.subs.coach, store := pick 5 x.subs.store,
                       fault := x.subs.fault }
    ∃ t, exec (.subscribe port i) s = .next t ∧ t = { s with portA := t.portA, portB := t.portB } ∧
      t.port (otherPort port) = s.port (otherPort port) ∧
      t.port port =
        (if names.getLsbD 6 ∨ names.getLsbD 7 then (x.carryBefore i).respond i .range []
        else { (x.carryBefore i).respond i .ok [flagsByte f] with subs := f })

/-- R188: an event offered to a port's event queue. -/
def Claim.OfferToAnEventQueue : Prop :=
  ∀ (x : Port) (stamp : BitVec 32) (e : Event),
    let lost := if x.lost < 65535 then x.lost + 1 else x.lost
    let faults := if e.classOf = .fault ∧ x.lostFaults < 255 then x.lostFaults + 1 else x.lostFaults
    (32 ≤ x.events.length → x.offer stamp e = { x with overflow := true, lost := lost, lostFaults := faults }) ∧
    (x.events.length < 32 → x.overflow = false →
      x.offer stamp e = { x with events := x.events ++ [{ seq := x.seq, stamp := stamp, event := e }], seq := x.seq + 1 }) ∧
    (x.events.length < 31 → x.overflow = true →
      x.offer stamp e = { x with
        events := x.events ++ [{ seq := x.seq, stamp := stamp, event := .eventsLost x.lost x.lostFaults },
                               { seq := x.seq + 1, stamp := stamp, event := e }]
        seq := x.seq + 1 + 1, overflow := false, lost := 0, lostFaults := 0 }) ∧
    (x.events.length = 31 → x.overflow = true →
      x.offer stamp e = { x with
        events := x.events ++ [{ seq := x.seq, stamp := stamp, event := .eventsLost lost faults }]
        seq := x.seq + 1, overflow := false, lost := 0, lostFaults := 0 })

/-- R187: the port controller takes a block's oldest raised event: a copy is offered to each port whose flag for its class is
on, and a FAULT event to both. -/
def Claim.EventGoesToItsSubscribers : Prop :=
  ∀ (s : State) (before after : List Raised) (r : Raised), s.raised = before ++ r :: after → (∀ q ∈ before, q.src ≠ r.src) →
    let takes := fun (x : Port) =>
      if r.event.classOf = .fault ∨ x.subs.has r.event.classOf = true then x.offer r.stamp r.event else x
    exec (.eventOffer r.src) s =
      .next { s with raised := before ++ after, portA := takes s.portA, portB := takes s.portB }

/-- A field of two values, as one byte (R182). -/
def Claim.flag (b : Bool) : Byte := if b then 1 else 0

/-- R144, R182: the class of a one-shot as a message carries it: its place in the rule's list (assumption 12). -/
def Claim.kindByte (k : OneShot) : Byte := match k with | .connect => 0 | .recorded => 1 | .announce => 2

/-- R154, R182: the state of a catalogue entry, likewise. -/
def Claim.promptStateByte (x : PromptState) : Byte := match x with | .writing => 0 | .valid => 1 | .retiring => 2

/-- R157, R161, R182: the state of the store, with its FAULT cause where it has one, likewise. -/
def Claim.storeStateBytes (x : Store) : List Byte :=
  [match x.state with | .starting => (0 : Byte) | .scanning => 1 | .ready => 2 | .fault => 3]
    ++ outOpt (fun c => [match c with | .start => (0 : Byte) | .stuck => 1]) x.cause

/-- R22: the nine settings of SET_POSITION as a response carries them, in the order of R22 (assumption 13) and in the widths of
assumption 12. -/
def Claim.nineSettings (r : PosRec) : List Byte :=
  out16 r.earLevel ++ out16 r.sendLevel ++ out16 r.duckDepth ++ [match r.whisperEar with | .left => (0 : Byte) | .right => 1]
    ++ out16 r.absenceGrace
    ++ [Claim.flag r.absenceHold, Claim.flag r.autoResume, byte r.whisperLimit, byte r.connectWaitLimit]

/-- R1, R24, R103, R120: every field of a position record as a query reports it: for the whisper and the announcement the kind
and the prompt, the number, whether each is queued or playing, and the player when playing (assumptions 12, 13). -/
def Claim.recordReport (r : PosRec) : List Byte :=
  let status := fun (x : ShotStatus) => match x with | .queued => [(0 : Byte), 0] | .assigned k => [1, 1, byte k.val]
  [match r.callState with | .idle => (0 : Byte) | .preconnect => 1 | .talk => 2 | .held => 3]
    ++ outOpt (fun c => [match c with | .command => (0 : Byte) | .agentAbsent => 1]) r.holdCause ++ [r.callSerial]
    ++ outOpt (fun n => [byte n.val]) r.rxSlot ++ outOpt (fun n => [byte n.val]) r.txSlot
    ++ outOpt (fun k => [byte k.val]) r.preconnectPlayer ++ outOpt (fun k => [byte k.val]) r.holdPlayer
    ++ outOpt (fun n => [byte n]) r.announcePrompt ++ out16 r.announceInterval ++ [Claim.flag r.announceAtStart]
    ++ out16 r.holdLimit ++ [Claim.flag r.mute, Claim.flag r.agentAbsent]
    ++ outOpt (fun w => [Claim.kindByte w.kind, byte w.prompt, w.number] ++ status w.status) r.whisper
    ++ outOpt (fun a => [byte a.prompt, a.number] ++ status a.status) r.announcement
    ++ outOpt (fun c => [byte c.val]) r.coach ++ Claim.nineSettings r ++ out24 r.lastHoldFrames

/-- R24, R81, R133: the response of QUERY_POSITION behind the position: the record, the sequencer's part with the hold count, the
link state and the lane count, for each canceller its mode, the blocks it asks for and holds and its ERLE, and the mode of an
attached coach source (in the order of assumption 13). -/
def Claim.positionReport (s : State) (p : Pos) : List Byte :=
  let q := s.seq p
  let canceller := fun (c : CancRec) =>
    [match c.mode with | .off => (0 : Byte) | .frozen => 1 | .adapt => 2, byte c.requested, byte c.blocks.length, byte c.erle]
  Claim.recordReport (s.pos p)
    ++ Claim.flag q.counting :: out24 q.elapsed ++ outOpt out24 q.nextAnnounce ++ outOpt out24 q.interval
    ++ outOpt out24 q.limit ++ [Claim.flag q.limitReported, q.holdNumber]
    ++ [match (s.link p).linkState with
        | .disabled => (0 : Byte) | .detect => 1 | .negotiate => 2 | .active => 3 | .recovery => 4 | .failed => 5,
        byte (s.link p).lanes]
    ++ canceller (s.canc ⟨p, .line⟩) ++ canceller (s.canc ⟨p, .acoustic⟩)
    ++ outOpt (fun c => [match (s.source c).mode with | .monitor => (0 : Byte) | .coach => 1 | .barge => 2]) (s.pos p).coach

/-- R151: the response of QUERY_PLAYER (assumptions 12, 23). -/
def Claim.playerReport (s : State) (k : PlayerNo) : List Byte :=
  let x := s.player k
  let entries := fun (kind : OneShot) => byte (s.playerUnit.queue.countP (fun e => decide (e.kind = kind)))
  [match x.role with | .pool => (0 : Byte) | .music => 1,
    match x.state with | .idle => 0 | .priming => 1 | .playing => 2]
    ++ outOpt (fun n => [byte n]) x.prompt ++ out24 x.cursor ++ out16 x.level ++ out16 x.buffer.length
    ++ [match x.fetch with | .none => (0 : Byte) | .live => 1 | .stale => 2]
    ++ byte x.subscribers.length :: x.subscribers.map (fun p => byte p.val)
    ++ outOpt (fun a => [byte a.position.val, a.serial, Claim.kindByte a.kind, a.number]) x.assignment
    ++ out24 x.playedFrames ++ Claim.flag x.underrunEpisode :: out16 x.underrunCount
    ++ [entries .connect, entries .recorded, entries .announce]

/-- R154, R170: every field of a catalogue entry that is present, as QUERY_PROMPT gives it (assumptions 12, 23). -/
def Claim.entryReport (e : Entry) : List Byte :=
  [byte e.id, Claim.promptStateByte e.state]
    ++ out16 e.first ++ out16 e.reserved ++ outOpt out16 e.final ++ outOpt out24 e.length ++ outOpt out16 e.level
    ++ outOpt out24 e.loopPoint ++ outOpt (fun text => byte text.length :: text) e.label
    ++ [byte e.playerRefs, byte e.musicRefs, byte e.queueRefs]
    ++ outOpt (fun b => [Claim.flag b]) (if e.state = .retiring then some e.retireAcked else none)
    ++ outOpt (fun m => [match m with | .pending => (0 : Byte) | .done => 1 | .failed => 2]) e.mark

/-- R170: the response of LIST_PROMPTS: up to 8 entries at or above the start id, each with its id, state, length, level and label,
and the id of the entry after the last one given, where there is one (assumptions 12, 23). -/
def Claim.listReport (s : State) (start : Nat) : List Byte :=
  let from_ := s.store.catalogue.filter (fun e => decide (start ≤ e.id))
  byte (min 8 from_.length) ::
    (from_.take 8).flatMap (fun e =>
      [byte e.id, Claim.promptStateByte e.state]
        ++ outOpt out24 e.length ++ outOpt out16 e.level ++ outOpt (fun text => byte text.length :: text) e.label)
    ++ outOpt (fun e => [byte e.id]) from_[8]?

/-- R170: no run of consecutive FREE sectors is longer than `n`, and one is that long. -/
def Claim.longestFreeRun (s : State) (n : Nat) : Prop :=
  let free := fun (first count : Nat) =>
    first + count ≤ 4096 ∧ ∀ m : Fin 4096, first ≤ m.val → m.val < first + count → look s.store.sectors m = .free
  (∃ first, free first n) ∧ ∀ first count, free first count → count ≤ n

/-- R170: the response of STORE_STATUS: the store state with the FAULT cause, the sectors FREE, ALLOCATED, ERASING and BAD, the
longest FREE run, the entries WRITING, VALID and RETIRING, the jobs queued, the sectors on the erase list whose erase has not ended
(assumption 24), and whether a load session exists (assumptions 12, 23). -/
def Claim.storeReport (s : State) (longest : Nat) : List Byte :=
  let x := s.store
  let sectors := fun (among : SectorState → Bool) => out16 ((List.finRange 4096).countP (fun n => among (look x.sectors n)))
  let entries := fun (st : PromptState) => byte (x.catalogue.countP (fun e => decide (e.state = st)))
  Claim.storeStateBytes x ++ sectors (fun y => decide (y = .free)) ++ sectors (fun y => match y with | .allocated _ => true | _ => false)
    ++ sectors (fun y => decide (y = .erasing)) ++ sectors (fun y => decide (y = .bad)) ++ out16 longest
    ++ [entries .writing, entries .valid, entries .retiring, byte s.arbiter.jobs.length]
    ++ out16 (x.eraseList.map (fun r => r.todo.length)).sum ++ [Claim.flag x.session.isSome]

/-- R190: the response of IDENTIFY: "Entuvo 4216" in ASCII behind its count, the silicon revision (assumption 6), the cause of the
last reset, the sync state and the frame counter, the store state and cause, both charters with their latched flags, the seven
subscription flags, and the port's slots in use, responses waiting, events waiting and overflow flag (assumptions 12, 23). -/
def Claim.identity (s : State) (port : PortId) : List Byte :=
  let x := s.port port
  let y := s.port (otherPort port)
  let charter := fun (g : Groups) => byte (g.call.toNat + 2 * g.station.toNat + 4 * g.coach.toNat + 8 * g.store.toNat)
  [11, 0x45, 0x6E, 0x74, 0x75, 0x76, 0x6F, 0x20, 0x34, 0x32, 0x31, 0x36, byte (Config.siliconRevisionLessOne.val + 1),
    match s.resetCause with | .powerOn => 0 | .pin => 1,
    match s.highway.sync with | .acquiring => 0 | .inSync => 1 | .lost => 2]
    ++ out32 s.highway.frameCounter.toNat ++ Claim.storeStateBytes s.store
    ++ [charter x.charter, Claim.flag x.latched, charter y.charter, Claim.flag y.latched,
        byte (x.subs.call.toNat + 2 * x.subs.station.toNat + 4 * x.subs.signal.toNat + 8 * x.subs.playback.toNat
          + 16 * x.subs.coach.toNat + 32 * x.subs.store.toNat + 64 * x.subs.fault.toNat),
        byte ((List.finRange 4).countP (fun i => decide (look x.slots i ≠ .empty))), byte x.answered.length,
        byte x.events.length, Claim.flag x.overflow]

/-- R24, R151, R170, R190: each query is answered OK with what its owners hold, or refused: RANGE for an object outside its
range, NOT_READY for a catalogue query before READY, NO_PROMPT for an id that is not catalogued; it changes nothing but its
port. What each answer carries is spelled out byte by byte; of a catalogue in ascending order of id, LIST_PROMPTS gives its
entries in that order, all of them before its next id. The widths, the order and the open values of the answers are the model's
(assumptions 6, 12, 13, 23, 24), and QUERY_POSITION reads every owner at once (assumption 41). -/
def Obligations.QueriesOnlyAnswer : Prop :=
  ∀ (port : PortId) (i : ReqSlot) (s : State),
    (∀ p : Pos, s.admits port i .queryPosition [byte p.val] →
      Claim.onlyAnswers s (.queryPosition port i) port i .ok (byte p.val :: Claim.positionReport s p)) ∧
    (∀ b : Byte, s.admits port i .queryPosition [b] → 16 ≤ b.toNat →
      Claim.onlyAnswers s (.queryPosition port i) port i .range [b]) ∧
    (∀ k : PlayerNo, s.admits port i .queryPlayer [byte k.val] →
      Claim.onlyAnswers s (.queryPlayer port i) port i .ok (Claim.playerReport s k)) ∧
    (∀ b : Byte, s.admits port i .queryPlayer [b] → 6 ≤ b.toNat → Claim.refuses s (.queryPlayer port i) port i .range) ∧
    (∀ b : Byte, s.admits port i .queryPrompt [b] →
      (b = 0 → Claim.refuses s (.queryPrompt port i) port i .range) ∧
      (b ≠ 0 → s.store.state = .starting ∨ s.store.state = .scanning →
        Claim.refuses s (.queryPrompt port i) port i .notReady) ∧
      (b ≠ 0 → s.store.state = .ready ∨ s.store.state = .fault →
        (s.entry? b.toNat = none → Claim.refuses s (.queryPrompt port i) port i .noPrompt) ∧
        (∀ e : Entry, s.entry? b.toNat = some e → Claim.onlyAnswers s (.queryPrompt port i) port i .ok (Claim.entryReport e)))) ∧
    (∀ b : Byte, s.admits port i .listPrompts [b] →
      (b = 0 → Claim.refuses s (.listPrompts port i) port i .range) ∧
      (b ≠ 0 → s.store.state = .starting ∨ s.store.state = .scanning →
        Claim.refuses s (.listPrompts port i) port i .notReady) ∧
      (b ≠ 0 → s.store.state = .ready ∨ s.store.state = .fault →
        Claim.onlyAnswers s (.listPrompts port i) port i .ok (Claim.listReport s b.toNat))) ∧
    (∀ start : Nat, s.store.catalogue.Pairwise (fun a b => a.id < b.id) →
      let from_ := s.store.catalogue.filter (fun e => decide (start ≤ e.id))
      (from_.take 8).Pairwise (fun a b => a.id < b.id) ∧ ∀ e ∈ from_[8]?, ∀ a ∈ from_.take 8, a.id < e.id) ∧
    (s.admits port i .storeStatus [] → ∃ longest, Claim.longestFreeRun s longest ∧
      Claim.onlyAnswers s (.storeStatus port i) port i .ok (Claim.storeReport s longest)) ∧
    (s.admits port i .identify [] → Claim.onlyAnswers s (.identify port i) port i .ok (Claim.identity s port))

/-! ### Positions and calls (chapter 1) -/

/-- R7, R181: the payload of BIND_CALL is its fields, one byte each, the two optional ones behind a presence byte. -/
def Claim.BindCallFields : Prop :=
  ∀ (b : List Byte) (a : BindCallArgs), parseBindCall b = some a ↔
    a.position < 256 ∧ a.rxSlot < 256 ∧ a.txSlot < 256 ∧ (∀ n ∈ a.whisperPrompt, n < 256) ∧
      (∀ n ∈ a.preconnectPlayer, n < 256) ∧
      b = [byte a.position, byte a.rxSlot, byte a.txSlot] ++ outOpt out8 a.whisperPrompt ++ outOpt out8 a.preconnectPlayer

/-- R7: the checks of BIND_CALL in their order, up to that of the slots; a refusal carries the position and changes nothing but
the port (R5). (The payload's fields: R181.) -/
def Obligations.BindCallChecks : Prop :=
  Claim.BindCallFields ∧
  ∀ (port : PortId) (i : ReqSlot) (s : State) (payload : List Byte) (a : BindCallArgs),
    s.admits port i .bindCall payload → parseBindCall payload = some a →
    ∀ st : Status,
      (16 ≤ a.position ∧ st = .range) ∨
      (∃ p : Pos, a.position = p.val ∧
        (((s.pos p).callState ≠ .idle ∧ st = .state) ∨
         ((s.pos p).callState = .idle ∧ (32 ≤ a.rxSlot ∨ 32 ≤ a.txSlot) ∧ st = .range) ∨
         ((s.pos p).callState = .idle ∧ a.rxSlot < 32 ∧ a.txSlot < 32 ∧
           (∃ w, a.whisperPrompt = some w ∧ s.promptValid w = false) ∧ st = .noPrompt) ∨
         ((s.pos p).callState = .idle ∧ a.rxSlot < 32 ∧ a.txSlot < 32 ∧
           (∃ w m, a.whisperPrompt = some w ∧ s.promptValid w = true ∧ a.preconnectPlayer = some m ∧
             ∀ k : PlayerNo, m = k.val → (s.player k).role ≠ .music) ∧ st = .range))) →
      ∃ t, exec (.bindCall port i) s = .next t ∧ Answered s t port i st [byte a.position] ∧
        t = { s with portA := t.portA, portB := t.portB }

/-- R8, R9: an accepted BIND_CALL, with or without a whisper_prompt: the record, the slot map, the notices to its neighbours,
the event and the answer; and SLOT_IN_USE, the record as it was, where a slot has a role other than UNBOUND (assumption 18). The
releases that the record delivered to the slot map before are taken first (assumption 32), and each answers the CLEAR it comes
from (assumption 48); the mixer is handed the call-started notice before the change of call_state (assumption 45). (The widths and
the order of the fields of the OK response: assumptions 12 and 23.) -/
def Obligations.BindCallStartsACall : Prop :=
  ∀ (port : PortId) (i : ReqSlot) (s : State) (p : Pos) (rx tx : Timeslot) (whisper : Option Byte)
    (player : Option PlayerNo),
    s.admits port i .bindCall
      ([byte p.val, byte rx.val, byte tx.val] ++ outOpt (fun w => [w]) whisper ++ outOpt outFin player) →
    (s.pos p).callState = .idle →
    (∀ w ∈ whisper, s.promptValid w.toNat = true) →
    (whisper.isSome → ∀ k ∈ player, (s.player k).role = .music) →
    let d := (s.modPort port (fun x => x.carryBefore i)).drain (.record p) .slotMap (slotMapTakes p)
    let answers := fun (t : State) (st : Status) (more : List Byte) =>
      t.port port = (d.port port).respond i st (byte p.val :: more) ∧ t.port (otherPort port) = d.port (otherPort port)
    let r := s.pos p
    let serial := r.callSerial + 1
    let number := r.whisperCounter + 1
    let after : PosRec :=
      match whisper with
      | none => { r with callState := .talk, callSerial := serial, rxSlot := some rx, txSlot := some tx }
      | some w =>
        { r with callState := .preconnect, callSerial := serial, rxSlot := some rx, txSlot := some tx,
                 preconnectPlayer := player, whisperCounter := number,
                 whisper := some { kind := .connect, prompt := w.toNat, number := number, status := .queued } }
    let started := Tidings.callStarted serial r.absenceGrace
    (look d.slotMap.rx rx = .unbound → look d.slotMap.tx tx = .unbound →
      ∃ t, exec (.bindCall port i) s = .next t ∧ t.pos p = after ∧ (∀ q, q ≠ p → t.pos q = s.pos q) ∧
        t.slotMap = { rx := put d.slotMap.rx rx (.customer p), tx := put d.slotMap.tx tx (.send p) } ∧
        Hands d.notices t.notices (.record p) (fun dst =>
          if dst = .echo ∨ dst = .coach ∨ dst = .link p then [started]
          else if dst = .supp then [started, .mixState after.copies]
          else if dst = .player then
            match whisper with
            | none => []
            | some w => .whisperRequest serial number .connect w.toNat r.connectWaitLimit
                :: (player.map (fun k => Tidings.subscribe serial k)).toList
          else []) ∧
        Raises s t (.record p) [.callState p serial .idle after.callState none .request none] ∧
        answers t .ok [if whisper.isSome then 1 else 2, serial] ∧
        t = { s with records := t.records, slotMap := t.slotMap, notices := t.notices, raised := t.raised,
                     portA := t.portA, portB := t.portB }) ∧
    ((look d.slotMap.rx rx ≠ .unbound ∨ look d.slotMap.tx tx ≠ .unbound) →
      ∃ t, exec (.bindCall port i) s = .next t ∧ answers t .slotInUse [] ∧
        t = { d with portA := t.portA, portB := t.portB })

/-- R11, R181: the payload of HOLD and of SET_HOLD is the position and the five hold settings, the optional ones behind a presence
byte, each in the fewest whole bytes its range needs. -/
def Claim.HoldFields : Prop :=
  ∀ (b : List Byte) (a : HoldArgs), parseHold b = some a ↔
    a.position < 256 ∧ (∀ n ∈ a.holdPlayer, n < 256) ∧ (∀ n ∈ a.announcePrompt, n < 256) ∧ a.announceInterval < 65536 ∧
      a.announceAtStart < 256 ∧ a.holdLimit < 65536 ∧
      b = byte a.position :: outOpt out8 a.holdPlayer ++ outOpt out8 a.announcePrompt ++ out16 a.announceInterval
        ++ byte a.announceAtStart :: out16 a.holdLimit

/-- R11: the checks of HOLD and SET_HOLD: RANGE for a position outside 0–15, STATE for a HOLD in IDLE or PRECONNECT, and then
those that `holdChecked` makes of the fields, whose status is the answer; a refusal carries the position and changes nothing but
the port (R5). An announce_at_start that is neither on nor off is refused RANGE (assumption 11). -/
def Claim.HoldChecks : Prop :=
  Claim.HoldFields ∧
  (∀ (port : PortId) (i : ReqSlot) (s : State) (payload : List Byte) (a : HoldArgs), parseHold payload = some a →
    (s.admits port i .hold payload →
      (16 ≤ a.position → Claim.onlyAnswers s (.hold port i) port i .range [byte a.position]) ∧
      (∀ p : Pos, a.position = p.val →
        ((s.pos p).callState = .idle ∨ (s.pos p).callState = .preconnect →
          Claim.onlyAnswers s (.hold port i) port i .state [byte p.val]) ∧
        (∀ st : Status, (s.pos p).callState = .talk ∨ (s.pos p).callState = .held → holdChecked a s = .error st →
          Claim.onlyAnswers s (.hold port i) port i st [byte p.val]))) ∧
    (s.admits port i .setHold payload →
      (16 ≤ a.position → Claim.onlyAnswers s (.setHold port i) port i .range [byte a.position]) ∧
      (∀ (p : Pos) (st : Status), a.position = p.val → holdChecked a s = .error st →
        Claim.onlyAnswers s (.setHold port i) port i st [byte p.val]))) ∧
  (∀ (a : HoldArgs) (s : State), 2 ≤ a.announceAtStart → holdChecked a s = .error .range) ∧
  ∀ (a : HoldArgs) (s : State) (start : Bool), a.announceAtStart = start.toNat →
    ((∃ n, a.holdPlayer = some n ∧ ∀ k : PlayerNo, n = k.val → (s.player k).role ≠ .music) →
      holdChecked a s = .error .range) ∧
    (∀ k : Option PlayerNo, a.holdPlayer = k.map Fin.val → (∀ j ∈ k, (s.player j).role = .music) →
      (¬(a.holdLimit = 0 ∨ (10 ≤ a.holdLimit ∧ a.holdLimit ≤ 7200)) → holdChecked a s = .error .range) ∧
      ((a.holdLimit = 0 ∨ (10 ≤ a.holdLimit ∧ a.holdLimit ≤ 7200)) →
        ((∃ w, a.announcePrompt = some w ∧ s.promptValid w = false) → holdChecked a s = .error .noPrompt) ∧
        ((∀ w, a.announcePrompt = some w → s.promptValid w = true) → holdChecked a s = .ok (k, start))))

/-- R12: an accepted HOLD in TALK: the call is HELD with the hold settings written, and the hold goes to its neighbours. -/
def Claim.HoldHoldsTheCall : Prop :=
  ∀ (port : PortId) (i : ReqSlot) (s : State) (p : Pos) (payload : List Byte) (a : HoldArgs) (k : Option PlayerNo)
    (start : Bool),
    s.admits port i .hold payload → parseHold payload = some a → a.position = p.val → holdChecked a s = .ok (k, start) →
    (s.pos p).callState = .talk →
    let r := s.pos p
    let after : PosRec :=
      { r with callState := .held, holdCause := some .command, holdPlayer := k, announcePrompt := a.announcePrompt,
               announceInterval := a.announceInterval, announceAtStart := start, holdLimit := a.holdLimit,
               holdNumber := r.holdNumber + 1 }
    ∃ t, exec (.hold port i) s = .next t ∧ t.pos p = after ∧ (∀ q, q ≠ p → t.pos q = s.pos q) ∧
      Hands s.notices t.notices (.record p) (fun dst =>
        if dst = .seq then
          [.holdStart { serial := r.callSerial, holdNumber := r.holdNumber + 1, announceOn := a.announcePrompt.isSome,
                        interval := a.announceInterval, atStart := start, limit := a.holdLimit }]
        else if dst = .player then (k.map (fun k => Tidings.subscribe r.callSerial k)).toList
        else if dst = .supp then [.mixState after.copies]
        else []) ∧
      Raises s t (.record p) [.callState p r.callSerial .talk .held (some .command) .request none] ∧
      Answered s t port i .ok [byte p.val] ∧
      t = { s with records := t.records, notices := t.notices, raised := t.raised, portA := t.portA, portB := t.portB }

/-- R13: a HOLD or a SET_HOLD taken in HELD changes the hold that is running. -/
def Claim.HoldChangesARunningHold : Prop :=
  ∀ (port : PortId) (i : ReqSlot) (s : State) (p : Pos) (payload : List Byte) (a : HoldArgs) (k : Option PlayerNo)
    (start : Bool),
    parseHold payload = some a → a.position = p.val → holdChecked a s = .ok (k, start) → (s.pos p).callState = .held →
    let r := s.pos p
    let after : PosRec :=
      { r with holdPlayer := k, announcePrompt := a.announcePrompt, announceInterval := a.announceInterval,
               announceAtStart := start, holdLimit := a.holdLimit }
    let change := Tidings.holdChange
      { serial := r.callSerial, holdNumber := r.holdNumber, announceOn := a.announcePrompt.isSome,
        interval := a.announceInterval, atStart := start, limit := a.holdLimit }
    let handed := fun (dst : Block) =>
      if dst = .seq then [change]
      else if dst = .player ∧ r.holdPlayer ≠ k then
        (r.holdPlayer.map (fun k => Tidings.unsubscribe r.callSerial k)).toList
          ++ (k.map (fun k => Tidings.subscribe r.callSerial k)).toList
      else []
    (s.admits port i .hold payload →
      ∃ t, exec (.hold port i) s = .next t ∧ t.pos p = { after with holdCause := some .command } ∧
        (∀ q, q ≠ p → t.pos q = s.pos q) ∧ Hands s.notices t.notices (.record p) handed ∧
        Raises s t (.record p)
          (if r.holdCause = some .command then []
           else [.callState p r.callSerial .held .held (some .command) .request none]) ∧
        Answered s t port i .ok [byte p.val] ∧
        t = { s with records := t.records, notices := t.notices, raised := t.raised, portA := t.portA, portB := t.portB }) ∧
    (s.admits port i .setHold payload →
      ∃ t, exec (.setHold port i) s = .next t ∧ t.pos p = after ∧ (∀ q, q ≠ p → t.pos q = s.pos q) ∧
        Hands s.notices t.notices (.record p) handed ∧ t.raised = s.raised ∧ Answered s t port i .ok [byte p.val] ∧
        t = { s with records := t.records, notices := t.notices, portA := t.portA, portB := t.portB })

/-- R13: "A SET_HOLD taken in IDLE, PRECONNECT or TALK writes the hold settings and hands nothing to the hold sequencer or the
player unit." -/
def Claim.SetHoldOutsideHeld : Prop :=
  ∀ (port : PortId) (i : ReqSlot) (s : State) (p : Pos) (payload : List Byte) (a : HoldArgs) (k : Option PlayerNo)
    (start : Bool),
    s.admits port i .setHold payload → parseHold payload = some a → a.position = p.val → holdChecked a s = .ok (k, start) →
    (s.pos p).callState ≠ .held →
    ∃ t, exec (.setHold port i) s = .next t ∧ (∀ q, q ≠ p → t.pos q = s.pos q) ∧
      t.pos p = { s.pos p with
        holdPlayer := k, announcePrompt := a.announcePrompt, announceInterval := a.announceInterval,
        announceAtStart := start, holdLimit := a.holdLimit } ∧
      Answered s t port i .ok [byte p.val] ∧ t = { s with records := t.records, portA := t.portA, portB := t.portB }

/-- R15: an UNHOLD outside HELD is refused STATE, and for a position outside 0–15 RANGE; an accepted one captures the hold count,
ends the announcement, the subscription and the count, and answers with the capture. The notices that the record delivered to
the sequencer before are taken first (assumption 32). (The width and the order of the fields of the OK response: assumptions 12
and 23.) -/
def Obligations.UnholdCapturesTheCount : Prop :=
  (∀ (port : PortId) (i : ReqSlot) (s : State) (b : Byte), s.admits port i .unhold [b] → 16 ≤ b.toNat →
    Claim.onlyAnswers s (.unhold port i) port i .range [b]) ∧
  (∀ (port : PortId) (i : ReqSlot) (s : State) (p : Pos), s.admits port i .unhold [byte p.val] →
    (s.pos p).callState ≠ .held → Claim.onlyAnswers s (.unhold port i) port i .state [byte p.val]) ∧
  ∀ (port : PortId) (i : ReqSlot) (s : State) (p : Pos), s.admits port i .unhold [byte p.val] → (s.pos p).callState = .held →
    let d := s.drain (.record p) .seq (seqTakes p)
    let r := s.pos p
    let count := (d.seq p).elapsed
    let after : PosRec := { r with callState := .talk, holdCause := none, announcement := none, lastHoldFrames := count }
    ∃ t, exec (.unhold port i) s = .next t ∧ t.pos p = after ∧ (∀ q, q ≠ p → t.pos q = s.pos q) ∧
      t.seq p = { d.seq p with counting := (d.seq p).counting && decide ((d.seq p).holdNumber ≠ r.holdNumber) } ∧
      (∀ q, q ≠ p → t.seq q = s.seq q) ∧
      Hands d.notices t.notices (.record p) (fun dst =>
        if dst = .player then
          (r.announcement.map (fun a => Tidings.announceEnd r.callSerial a.number .resumed)).toList
            ++ (r.holdPlayer.map (fun k => Tidings.unsubscribe r.callSerial k)).toList
        else if dst = .supp then [.mixState after.copies]
        else []) ∧
      Raises s t (.record p) [.callState p r.callSerial .held .talk none .request (some count)] ∧
      Answered s t port i .ok (byte p.val :: out24 count) ∧
      t = { s with records := t.records, seqs := t.seqs, notices := t.notices, raised := t.raised, portA := t.portA,
                   portB := t.portB }

/-- R16: a CLEAR of an IDLE position is refused STATE, and of a position outside 0–15 RANGE; an accepted one ends the call: the
record, and the releases on their way to their owners, at the player unit the end of an announcement before the release
(assumption 49), and at the mixer the call-ended notice before the change of call_state (45). The request keeps its slot until
the slot map has taken its release, and is answered OK then (48). -/
def Claim.ClearEndsTheCall : Prop :=
  (∀ (port : PortId) (i : ReqSlot) (s : State) (b : Byte), s.admits port i .clear [b] → 16 ≤ b.toNat →
    Claim.onlyAnswers s (.clear port i) port i .range [b]) ∧
  (∀ (port : PortId) (i : ReqSlot) (s : State) (p : Pos), s.admits port i .clear [byte p.val] →
    (s.pos p).callState = .idle → Claim.onlyAnswers s (.clear port i) port i .state [byte p.val]) ∧
  ∀ (port : PortId) (i : ReqSlot) (s : State) (p : Pos), s.admits port i .clear [byte p.val] → (s.pos p).callState ≠ .idle →
    let r := s.pos p
    let after : PosRec :=
      { r with callState := .idle, holdCause := none, rxSlot := none, txSlot := none, preconnectPlayer := none,
               whisper := none, announcement := none, coach := none, agentAbsent := false }
    ∃ t, exec (.clear port i) s = .next t ∧ t.pos p = after ∧ (∀ q, q ≠ p → t.pos q = s.pos q) ∧
      Hands s.notices t.notices (.record p) (fun dst =>
        if dst = .slotMap then [.slotRelease port i]
        else if dst = .echo ∨ dst = .coach ∨ dst = .link p then [.callEnded]
        else if dst = .seq then (if r.callState = .held then [.holdStop r.holdNumber false] else [])
        else if dst = .player then
          (r.announcement.map (fun a => Tidings.announceEnd r.callSerial a.number .cleared)).toList ++ [.clearRelease]
        else if dst = .supp then [.callEnded, .mixState after.copies]
        else []) ∧
      Raises s t (.record p) [.callState p r.callSerial r.callState .idle none .request none] ∧
      t.port port = ((s.port port).carryBefore i).defer i ∧ t.port (otherPort port) = s.port (otherPort port) ∧
      t = { s with records := t.records, notices := t.notices, raised := t.raised, portA := t.portA, portB := t.portB }

/-- R18: SET_MUTE gives mute the value carried; a mute button edge toggles it; each change of mute is reported with its
source, and a SET_MUTE of the value it holds changes nothing. A SET_MUTE is refused RANGE for a position outside 0–15, and for
a mute that is neither on nor off (assumption 11). -/
def Obligations.MuteByRequestAndButton : Prop :=
  (∀ (port : PortId) (i : ReqSlot) (s : State) (b on : Byte), s.admits port i .setMute [b, on] →
    16 ≤ b.toNat ∨ 2 ≤ on.toNat → Claim.onlyAnswers s (.setMute port i) port i .range [b]) ∧
  (∀ (port : PortId) (i : ReqSlot) (s : State) (p : Pos) (on : Bool),
    s.admits port i .setMute [byte p.val, if on then 1 else 0] →
    let after : PosRec := { s.pos p with mute := on }
    ∃ t, exec (.setMute port i) s = .next t ∧ t.pos p = after ∧ (∀ q, q ≠ p → t.pos q = s.pos q) ∧
      Hands s.notices t.notices (.record p) (fun dst =>
        if dst = .supp ∧ (s.pos p).mute ≠ on then [.mixState after.copies] else []) ∧
      Raises s t (.record p) (if (s.pos p).mute = on then [] else [.muteChanged p on .request]) ∧
      Answered s t port i .ok [byte p.val] ∧
      t = { s with records := t.records, notices := t.notices, raised := t.raised, portA := t.portA, portB := t.portB }) ∧
  (∀ (s : State) (p : Pos) (ns : List Notice), s.finds (.link p) (.record p) .muteEdge ns →
    let after : PosRec := { s.pos p with mute := !(s.pos p).mute }
    ∃ t, exec (.muteButtonEdge p) s = .next t ∧ t.pos p = after ∧ (∀ q, q ≠ p → t.pos q = s.pos q) ∧
      Hands ns t.notices (.record p) (fun dst => if dst = .supp then [.mixState after.copies] else []) ∧
      Raises s t (.record p) [.muteChanged p after.mute .button] ∧
      t = { s with records := t.records, notices := t.notices, raised := t.raised })

/-- R20: an absence expiry of the call, agent_absent being clear: agent_absent is set, and a call in TALK is held for it where
absence_hold is on. -/
def Claim.AbsenceExpiry : Prop :=
  ∀ (s : State) (p : Pos) (serial : Byte) (ns : List Notice), s.finds (.link p) (.record p) (.absenceExpiry serial) ns →
    (s.pos p).callState ≠ .idle → (s.pos p).callSerial = serial → (s.pos p).agentAbsent = false →
    let r := s.pos p
    let holds := decide (r.callState = .talk ∧ r.absenceHold = true)
    let after : PosRec :=
      if holds then
        { r with agentAbsent := true, callState := .held, holdCause := some .agentAbsent, holdNumber := r.holdNumber + 1 }
      else { r with agentAbsent := true }
    ∃ t, exec (.absenceExpiry p) s = .next t ∧ t.pos p = after ∧ (∀ q, q ≠ p → t.pos q = s.pos q) ∧
      Hands ns t.notices (.record p) (fun dst =>
        if holds = false then []
        else if dst = .seq then [.holdStart after.holdNotice]
        else if dst = .player then (r.holdPlayer.map (fun k => Tidings.subscribe serial k)).toList
        else if dst = .supp then [.mixState after.copies]
        else []) ∧
      Raises s t (.record p)
        (.agentAbsent p serial
            (if r.callState = .preconnect ∧ r.absenceHold = true then .deferred else if holds then .held else .none)
          :: (if holds then [.callState p serial .talk .held (some .agentAbsent) .absence none] else [])) ∧
      t = { s with records := t.records, notices := t.notices, raised := t.raised }

/-- R21: a return of the agent, agent_absent being set: it is cleared, and a call held for absence resumes, with its capture,
where auto_resume is on, and its count stops. The notices the record delivered to the sequencer before are then taken first
(assumption 32). -/
def Claim.AgentReturns : Prop :=
  ∀ (s : State) (p : Pos) (serial : Byte) (ns : List Notice), s.finds (.link p) (.record p) (.linkReturn serial) ns →
    (s.pos p).callState ≠ .idle → (s.pos p).callSerial = serial → (s.pos p).agentAbsent = true →
    let r := s.pos p
    let resumes := decide (r.callState = .held ∧ r.holdCause = some .agentAbsent ∧ r.autoResume = true)
    let d := if resumes then { s with notices := ns }.drain (.record p) .seq (seqTakes p) else { s with notices := ns }
    let count := (d.seq p).elapsed
    let after : PosRec :=
      if resumes then
        { r with agentAbsent := false, callState := .talk, holdCause := none, announcement := none, lastHoldFrames := count }
      else { r with agentAbsent := false }
    ∃ t, exec (.returnNotice p) s = .next t ∧ t.pos p = after ∧ (∀ q, q ≠ p → t.pos q = s.pos q) ∧
      (∀ q, q ≠ p ∨ resumes = false → t.seq q = s.seq q) ∧
      (resumes = true →
        t.seq p = { d.seq p with counting := (d.seq p).counting && decide ((d.seq p).holdNumber ≠ r.holdNumber) }) ∧
      Hands d.notices t.notices (.record p) (fun dst =>
        if resumes = false then []
        else if dst = .player then
          (r.announcement.map (fun a => Tidings.announceEnd serial a.number .resumed)).toList
            ++ (r.holdPlayer.map (fun k => Tidings.unsubscribe serial k)).toList
        else if dst = .supp then [.mixState after.copies]
        else []) ∧
      Raises s t (.record p)
        (.agentReturned p serial resumes
          :: (if resumes then [.callState p serial .held .talk none .linkReturn (some count)] else [])) ∧
      t = { s with records := t.records, seqs := t.seqs, notices := t.notices, raised := t.raised }

/-- R4: a notice of another call, or one that finds the record IDLE, is discarded: it "changes no field and raises no
event". -/
def Obligations.StaleNoticesAreDiscarded : Prop :=
  ∀ (s : State) (p : Pos) (serial number : Byte) (k : PlayerNo) (outcome : WhisperOutcome) (ns : List Notice),
    ((s.pos p).callState = .idle ∨ (s.pos p).callSerial ≠ serial) →
    (s.finds (.link p) (.record p) (.absenceExpiry serial) ns →
      exec (.absenceExpiry p) s = .next { s with notices := ns }) ∧
    (s.finds (.link p) (.record p) (.linkReturn serial) ns →
      exec (.returnNotice p) s = .next { s with notices := ns }) ∧
    (s.finds .player (.record p) (.whisperGranted serial number k) ns →
      exec (.whisperGrantedNotice p) s = .next { s with notices := ns }) ∧
    (s.finds .player (.record p) (.whisperOver serial number outcome) ns →
      exec (.whisperEndNotice p) s = .next { s with notices := ns }) ∧
    (s.finds .player (.record p) (.announceGranted serial number k) ns →
      exec (.announceGrantedNotice p) s = .next { s with notices := ns }) ∧
    (s.finds .player (.record p) (.announceOver serial number) ns →
      exec (.announceEndNotice p) s = .next { s with notices := ns }) ∧
    (s.finds .player (.record p) (.subscriptionRefused serial k) ns →
      exec (.subscriptionRefused p) s = .next { s with notices := ns })

/-- R10: the end of a connect whisper takes the record out of PRECONNECT: into HELD where the agent is absent and
absence_hold is on, else into TALK. -/
def Obligations.ConnectWhisperEnds : Prop :=
  ∀ (s : State) (p : Pos) (serial : Byte) (w : Whisper) (outcome : WhisperOutcome) (ns : List Notice),
    s.finds .player (.record p) (.whisperOver serial w.number outcome) ns → (s.pos p).callState = .preconnect →
    (s.pos p).callSerial = serial → (s.pos p).whisper = some w → w.kind = .connect →
    let r := s.pos p
    let holds := r.agentAbsent && r.absenceHold
    let after : PosRec :=
      if holds then
        { r with whisper := none, preconnectPlayer := none, callState := .held, holdCause := some .agentAbsent,
                 holdNumber := r.holdNumber + 1 }
      else { r with whisper := none, preconnectPlayer := none, callState := .talk }
    ∃ t, exec (.whisperEndNotice p) s = .next t ∧ t.pos p = after ∧ (∀ q, q ≠ p → t.pos q = s.pos q) ∧
      Hands ns t.notices (.record p) (fun dst =>
        if dst = .player then
          (r.preconnectPlayer.map (fun k => Tidings.unsubscribe serial k)).toList
            ++ (if holds then (r.holdPlayer.map (fun k => Tidings.subscribe serial k)).toList else [])
        else if dst = .seq then (if holds then [.holdStart after.holdNotice] else [])
        else if dst = .supp then [.mixState after.copies]
        else []) ∧
      Raises s t (.record p)
        [.callState p serial .preconnect after.callState (if holds then some .agentAbsent else none)
          (.whisperEnd outcome) none] ∧
      t = { s with records := t.records, notices := t.notices, raised := t.raised }

/-- R22: the fields of SET_POSITION, as its payload carries them (R181), and held against the ranges of R1. -/
def Claim.PositionFields : Prop :=
  let one := fun (b : Byte) => [b]
  let word := fun (x : BitVec 16) => out16 x.toNat
  (∀ (position : Byte) (earLevel sendLevel duckDepth absenceGrace : Option (BitVec 16))
    (whisperEar absenceHold autoResume whisperLimit connectWaitLimit : Option Byte),
    parseSetPosition (position :: (outOpt word earLevel ++ outOpt word sendLevel ++ outOpt word duckDepth
        ++ outOpt one whisperEar ++ outOpt word absenceGrace ++ outOpt one absenceHold ++ outOpt one autoResume
        ++ outOpt one whisperLimit ++ outOpt one connectWaitLimit)) =
      some { position := position.toNat, earLevel := earLevel.map BitVec.toNat, sendLevel := sendLevel.map BitVec.toNat
             duckDepth := duckDepth.map BitVec.toNat, whisperEar := whisperEar.map BitVec.toNat
             absenceGrace := absenceGrace.map BitVec.toNat, absenceHold := absenceHold.map BitVec.toNat
             autoResume := autoResume.map BitVec.toNat, whisperLimit := whisperLimit.map BitVec.toNat
             connectWaitLimit := connectWaitLimit.map BitVec.toNat }) ∧
  (∀ (a : SetPositionArgs) (ear : Option Ear) (hold resume : Option Bool),
    (∀ n ∈ a.earLevel, n ≤ 65535) → (∀ n ∈ a.sendLevel, n ≤ 65535) → (∀ n ∈ a.duckDepth, n ≤ 65535) →
    a.whisperEar = ear.map (fun e => if e = .left then 0 else 1) → (∀ n ∈ a.absenceGrace, n ≤ 5000) →
    a.absenceHold = hold.map Bool.toNat → a.autoResume = resume.map Bool.toNat →
    (∀ n ∈ a.whisperLimit, 1 ≤ n ∧ n ≤ 60) → (∀ n ∈ a.connectWaitLimit, n ≤ 10) →
    a.checked = some { earLevel := a.earLevel, sendLevel := a.sendLevel, duckDepth := a.duckDepth, whisperEar := ear
                       absenceGrace := a.absenceGrace, absenceHold := hold, autoResume := resume
                       whisperLimit := a.whisperLimit, connectWaitLimit := a.connectWaitLimit })

/-- R22: an accepted SET_POSITION "writes every field it carries. The fields it does not carry keep their values", and is
answered with all nine; a position or a field outside its range refuses it whole, an absence_hold or an auto_resume that is neither
on nor off among them (assumption 11). (The widths and the order of the fields of the OK response: assumptions 12, 13 and 23.) -/
def Obligations.SetPositionWritesWhatItCarries : Prop :=
  Claim.PositionFields ∧
  (∀ (port : PortId) (i : ReqSlot) (s : State) (payload : List Byte) (a : SetPositionArgs),
    s.admits port i .setPosition payload → parseSetPosition payload = some a → 16 ≤ a.position →
    Claim.onlyAnswers s (.setPosition port i) port i .range [byte a.position]) ∧
  ∀ (port : PortId) (i : ReqSlot) (s : State) (p : Pos) (payload : List Byte) (a : SetPositionArgs),
    s.admits port i .setPosition payload → parseSetPosition payload = some a → a.position = p.val →
    (∀ v : PosSettings, a.checked = some v →
      let r := s.pos p
      let after : PosRec :=
        { r with earLevel := v.earLevel.getD r.earLevel, sendLevel := v.sendLevel.getD r.sendLevel,
                 duckDepth := v.duckDepth.getD r.duckDepth, whisperEar := v.whisperEar.getD r.whisperEar,
                 absenceGrace := v.absenceGrace.getD r.absenceGrace, absenceHold := v.absenceHold.getD r.absenceHold,
                 autoResume := v.autoResume.getD r.autoResume, whisperLimit := v.whisperLimit.getD r.whisperLimit,
                 connectWaitLimit := v.connectWaitLimit.getD r.connectWaitLimit }
      ∃ t, exec (.setPosition port i) s = .next t ∧ t.pos p = after ∧ (∀ q, q ≠ p → t.pos q = s.pos q) ∧
        Hands s.notices t.notices (.record p) (fun dst =>
          if dst = .supp then (if after.copies = r.copies then [] else [.mixState after.copies])
          else if dst = .link p then (v.absenceGrace.map Tidings.absenceGrace).toList
          else if dst = .player then (v.whisperLimit.map Tidings.whisperLimit).toList
          else []) ∧
        t.raised = s.raised ∧ Answered s t port i .ok (byte p.val :: Claim.nineSettings after) ∧
        t = { s with records := t.records, notices := t.notices, portA := t.portA, portB := t.portB }) ∧
    ((∃ n, a.absenceGrace = some n ∧ 5000 < n) ∨ (∃ n, a.whisperLimit = some n ∧ (n < 1 ∨ 60 < n)) ∨
        (∃ n, a.connectWaitLimit = some n ∧ 10 < n) ∨ (∃ n, a.whisperEar = some n ∧ 2 ≤ n) ∨
        (∃ n, a.absenceHold = some n ∧ 2 ≤ n) ∨ (∃ n, a.autoResume = some n ∧ 2 ≤ n) →
      ∃ t, exec (.setPosition port i) s = .next t ∧ Answered s t port i .range [byte p.val] ∧
        t = { s with portA := t.portA, portB := t.portB })

/-- R16, R26, R27: the slot map takes the release of a CLEAR: the slots of the position return to UNBOUND, and no other slot
changes; the CLEAR is answered OK with the position (its response waits for the release: assumption 48). -/
def Claim.ReleasedSlotsAreUnbound : Prop :=
  ∀ (s : State) (p : Pos) (port : PortId) (i : ReqSlot) (ns : List Notice),
    s.finds (.record p) .slotMap (.slotRelease port i) ns →
    ∃ t, exec (.slotRelease p) s = .next t ∧
      t = { s with slotMap := t.slotMap, notices := ns, portA := t.portA, portB := t.portB } ∧
      (∀ n : Timeslot,
        (look t.slotMap.rx n = if look s.slotMap.rx n = .customer p then .unbound else look s.slotMap.rx n) ∧
        (look t.slotMap.tx n = if look s.slotMap.tx n = .send p then .unbound else look s.slotMap.tx n)) ∧
      t.port port = (s.port port).respond i .ok [byte p.val] ∧ t.port (otherPort port) = s.port (otherPort port)
/-! ### Whispers and announcements at the record (chapters 6 and 7) -/

/-- R107: the checks of WHISPER, and an accepted one: a RECORDED whisper, QUEUED, and its request to the player unit; the answer
carries its whisper_number. -/
def Claim.WhisperRequests : Prop :=
  (∀ (port : PortId) (i : ReqSlot) (s : State) (b w : Byte), s.admits port i .whisper [b, w] → 16 ≤ b.toNat →
    Claim.refuses s (.whisper port i) port i .range) ∧
  ∀ (port : PortId) (i : ReqSlot) (s : State) (p : Pos) (w : Byte), s.admits port i .whisper [byte p.val, w] →
    let r := s.pos p
    let number := r.whisperCounter + 1
    (r.callState ≠ .talk → r.callState ≠ .held →
      Claim.refuses s (.whisper port i) port i .state) ∧
    ((r.callState = .talk ∨ r.callState = .held) → r.whisper.isSome = true →
      Claim.refuses s (.whisper port i) port i .busy) ∧
    ((r.callState = .talk ∨ r.callState = .held) → r.whisper = none → s.promptValid w.toNat = false →
      Claim.refuses s (.whisper port i) port i .noPrompt) ∧
    ((r.callState = .talk ∨ r.callState = .held) → r.whisper = none → s.promptValid w.toNat = true →
      ∃ t, exec (.whisper port i) s = .next t ∧ (∀ q, q ≠ p → t.pos q = s.pos q) ∧
        t.pos p = { r with
          whisperCounter := number
          whisper := some { kind := .recorded, prompt := w.toNat, number := number, status := .queued } } ∧
        t.notices = s.notices ++
          [{ src := .record p, dst := .player, tidings := .whisperRequest r.callSerial number .recorded w.toNat 0 }] ∧
        Answered s t port i .ok [number] ∧
        t = { s with records := t.records, notices := t.notices, portA := t.portA, portB := t.portB })

/-- R109: CANCEL_WHISPER takes a whisper away and hands the player unit its cancel; a CONNECT whisper's cancel also takes the
record out of PRECONNECT, into HELD where the agent is absent and absence_hold is on and else into TALK, and raises CALL_STATE
with the outcome CANCELLED (R10). -/
def Claim.CancelWhisper : Prop :=
  (∀ (port : PortId) (i : ReqSlot) (s : State) (b : Byte), s.admits port i .cancelWhisper [b] → 16 ≤ b.toNat →
    Claim.refuses s (.cancelWhisper port i) port i .range) ∧
  ∀ (port : PortId) (i : ReqSlot) (s : State) (p : Pos), s.admits port i .cancelWhisper [byte p.val] →
    let r := s.pos p
    (r.whisper = none →
      Claim.refuses s (.cancelWhisper port i) port i .state) ∧
    (∀ w : Whisper, r.whisper = some w → w.kind ≠ .connect →
      ∃ t, exec (.cancelWhisper port i) s = .next t ∧ t.pos p = { r with whisper := none } ∧
        (∀ q, q ≠ p → t.pos q = s.pos q) ∧
        t.notices = s.notices ++
          [{ src := .record p, dst := .player, tidings := .whisperCancel r.callSerial w.number w.kind }] ∧
        Answered s t port i .ok [] ∧
        t = { s with records := t.records, notices := t.notices, portA := t.portA, portB := t.portB }) ∧
    (∀ w : Whisper, r.whisper = some w → w.kind = .connect → r.callState = .preconnect →
      let holds := r.agentAbsent && r.absenceHold
      let after : PosRec :=
        if holds then
          { r with whisper := none, preconnectPlayer := none, callState := .held, holdCause := some .agentAbsent,
                   holdNumber := r.holdNumber + 1 }
        else { r with whisper := none, preconnectPlayer := none, callState := .talk }
      ∃ t, exec (.cancelWhisper port i) s = .next t ∧ t.pos p = after ∧ (∀ q, q ≠ p → t.pos q = s.pos q) ∧
        Hands s.notices t.notices (.record p) (fun dst =>
          if dst = .player then
            .whisperCancel r.callSerial w.number .connect
              :: (r.preconnectPlayer.map (fun k => Tidings.unsubscribe r.callSerial k)).toList
              ++ (if holds then (r.holdPlayer.map (fun k => Tidings.subscribe r.callSerial k)).toList else [])
          else if dst = .seq then (if holds then [.holdStart after.holdNotice] else [])
          else if dst = .supp then [.mixState after.copies]
          else []) ∧
        Raises s t (.record p)
          [.callState p r.callSerial .preconnect after.callState (if holds then some .agentAbsent else none)
            (.whisperEnd .cancelled) none] ∧
        Answered s t port i .ok [] ∧
        t = { s with records := t.records, notices := t.notices, raised := t.raised, portA := t.portA, portB := t.portB })

/-- R103, R130: the record takes the player unit's notices of its whisper and of its announcement by their numbers: a grant
makes the one-shot ASSIGNED, and an end makes it absent; a notice of another number is discarded. -/
def Claim.OneShotNoticesAtTheRecord : Prop :=
  ∀ (s : State) (p : Pos) (k : PlayerNo) (outcome : WhisperOutcome) (number : Byte) (ns : List Notice),
    (s.pos p).callState ≠ .idle →
    let serial := (s.pos p).callSerial
    (∀ w : Whisper, (s.pos p).whisper = some w →
      (s.finds .player (.record p) (.whisperGranted serial number k) ns →
        exec (.whisperGrantedNotice p) s = .next
          (if number = w.number then
            { s with notices := ns }.modPos p (fun r => { r with whisper := some { w with status := .assigned k } })
           else { s with notices := ns })) ∧
      (s.finds .player (.record p) (.whisperOver serial number outcome) ns → w.kind ≠ .connect →
        exec (.whisperEndNotice p) s = .next
          (if number = w.number then { s with notices := ns }.modPos p (fun r => { r with whisper := none })
           else { s with notices := ns }))) ∧
    (∀ a : Announcement, (s.pos p).announcement = some a →
      (s.finds .player (.record p) (.announceGranted serial number k) ns →
        exec (.announceGrantedNotice p) s = .next
          (if number = a.number then
            { s with notices := ns }.modPos p (fun r => { r with announcement := some { a with status := .assigned k } })
           else { s with notices := ns })) ∧
      (s.finds .player (.record p) (.announceOver serial number) ns →
        exec (.announceEndNotice p) s = .next
          (if number = a.number then { s with notices := ns }.modPos p (fun r => { r with announcement := none })
           else { s with notices := ns })))

/-- R14: a refused subscription makes the hold_player or the preconnect_player that names the player absent, and raises no
event. -/
def Claim.SubscriptionRefused : Prop :=
  ∀ (s : State) (p : Pos) (k : PlayerNo) (ns : List Notice),
    s.finds .player (.record p) (.subscriptionRefused (s.pos p).callSerial k) ns → (s.pos p).callState ≠ .idle →
    ∃ t, exec (.subscriptionRefused p) s = .next t ∧ (∀ q, q ≠ p → t.pos q = s.pos q) ∧
      t.pos p = { s.pos p with
        holdPlayer := if (s.pos p).holdPlayer = some k then none else (s.pos p).holdPlayer
        preconnectPlayer := if (s.pos p).preconnectPlayer = some k then none else (s.pos p).preconnectPlayer } ∧
      t = { s with records := t.records, notices := ns }

/-- R124: the record takes an announcement-due notice: discarded, skipped for BUSY or NO_PROMPT, or an announcement created. -/
def Claim.AnnouncementDueAtTheRecord : Prop :=
  ∀ (s : State) (p : Pos) (serial hold : Byte) (elapsed : Nat) (ns : List Notice),
    s.finds .seq (.record p) (.announceDue serial hold elapsed) ns →
    let r := s.pos p
    let s' : State := { s with notices := ns }
    (r.callState ≠ .held ∨ r.callSerial ≠ serial ∨ r.holdNumber ≠ hold → exec (.announceDueNotice p) s = .next s') ∧
    (r.callState = .held → r.callSerial = serial → r.holdNumber = hold →
      (r.announcement.isSome = true → exec (.announceDueNotice p) s =
        .next (s'.raise (.record p) (.announceSkipped p serial r.announcePrompt .busy (some elapsed)))) ∧
      (r.announcement = none → r.announcePrompt.all s.promptValid = false ∨ r.announcePrompt = none →
        exec (.announceDueNotice p) s =
          .next (s'.raise (.record p) (.announceSkipped p serial r.announcePrompt .noPrompt (some elapsed)))) ∧
      (∀ a, r.announcement = none → r.announcePrompt = some a → s.promptValid a = true →
        ∃ t, exec (.announceDueNotice p) s = .next t ∧ (∀ q, q ≠ p → t.pos q = s.pos q) ∧
          t.pos p = { r with
            announceCounter := r.announceCounter + 1
            announcement := some { prompt := a, number := r.announceCounter + 1, status := .queued } } ∧
          t.notices = ns ++
            [{ src := .record p, dst := .player, tidings := .announceRequest serial (r.announceCounter + 1) a }] ∧
          t = { s with records := t.records, notices := t.notices }))

/-! ### Coaching (chapter 6) -/

/-- R112: an accepted SET_COACH_SOURCE binds the slots it names and returns to UNBOUND those it does not (R27); SLOT_IN_USE
leaves the source's slots as they were, a source not UNATTACHED is refused IN_USE, and a source outside 0–3 or a slot outside
0–31 RANGE. -/
def Claim.SetCoachSource : Prop :=
  (∀ (port : PortId) (i : ReqSlot) (s : State) (c : Byte) (rx tx : Option Byte),
    s.admits port i .setCoachSource (c :: outOpt (fun b => [b]) rx ++ outOpt (fun b => [b]) tx) →
    (4 ≤ c.toNat ∨ (∃ b ∈ rx, 32 ≤ b.toNat) ∨ ∃ b ∈ tx, 32 ≤ b.toNat) →
    Claim.refuses s (.setCoachSource port i) port i .range) ∧
  ∀ (port : PortId) (i : ReqSlot) (s : State) (c : Source) (rx tx : Option Timeslot),
    s.admits port i .setCoachSource (byte c.val :: outOpt outFin rx ++ outOpt outFin tx) →
    let free := (∀ n, rx = some n → look s.slotMap.rx n = .unbound ∨ look s.slotMap.rx n = .coach c) ∧
      (∀ n, tx = some n → look s.slotMap.tx n = .unbound ∨ look s.slotMap.tx n = .monitor c)
    ((s.source c).attachment ≠ .unattached →
      ∃ t, exec (.setCoachSource port i) s = .next t ∧ Answered s t port i .inUse [] ∧
        t = { s with portA := t.portA, portB := t.portB }) ∧
    ((s.source c).attachment = .unattached → ¬free →
      ∃ t, exec (.setCoachSource port i) s = .next t ∧ Answered s t port i .slotInUse [] ∧
        t = { s with portA := t.portA, portB := t.portB }) ∧
    ((s.source c).attachment = .unattached → free →
      ∃ t, exec (.setCoachSource port i) s = .next t ∧ t.source c = { s.source c with rxSlot := rx, txSlot := tx } ∧
        (∀ d, d ≠ c → t.source d = s.source d) ∧ t.coach.serials = s.coach.serials ∧
        (∀ n : Timeslot,
          (look t.slotMap.rx n =
            if rx = some n then .coach c else if look s.slotMap.rx n = .coach c then .unbound else look s.slotMap.rx n) ∧
          (look t.slotMap.tx n =
            if tx = some n then .monitor c else if look s.slotMap.tx n = .monitor c then .unbound else look s.slotMap.tx n)) ∧
        Answered s t port i .ok (outOpt outFin rx ++ outOpt outFin tx) ∧
        t = { s with slotMap := t.slotMap, coach := t.coach, portA := t.portA, portB := t.portB })

/-- R113: the refusals of an ATTACH_COACH by the coach unit: RANGE for a source, a position or a mode outside its range, IN_USE
for a source that is not UNATTACHED, RANGE for one without a slot. -/
def Claim.AttachIsRefused : Prop :=
  ∀ (port : PortId) (i : ReqSlot) (s : State),
    (∀ c p m : Byte, s.admits port i .attachCoach [c, p, m] → 4 ≤ c.toNat ∨ 16 ≤ p.toNat ∨ 3 ≤ m.toNat →
      Claim.refuses s (.attachCoach port i) port i .range) ∧
    (∀ (c : Source) (p : Pos) (m : CoachMode), s.admits port i .attachCoach (byte c.val :: byte p.val :: outCoachMode m) →
      ((s.source c).attachment ≠ .unattached → Claim.refuses s (.attachCoach port i) port i .inUse) ∧
      ((s.source c).attachment = .unattached → (s.source c).rxSlot = none → (s.source c).txSlot = none →
        Claim.refuses s (.attachCoach port i) port i .range))

/-- R113: the handshake of an ATTACH_COACH: the coach unit's refusals, its claim, the record's answer, and what the coach unit
makes of each answer. -/
def Claim.AttachHandshake : Prop :=
  Claim.AttachIsRefused ∧
  (∀ (port : PortId) (i : ReqSlot) (s : State) (c : Source) (p : Pos) (m : CoachMode),
    s.admits port i .attachCoach (byte c.val :: byte p.val :: outCoachMode m) → (s.source c).attachment = .unattached →
    ((s.source c).rxSlot.isSome = true ∨ (s.source c).txSlot.isSome = true) →
    ∃ t, exec (.attachCoach port i) s = .next t ∧
      t.source c = { s.source c with
        attachment := .pending, position := some p, attaching := some { port := port, slot := i, mode := m } } ∧
      (∀ d, d ≠ c → t.source d = s.source d) ∧ t.coach.serials = s.coach.serials ∧
      t.notices = s.notices ++ [{ src := .coach, dst := .record p, tidings := .attachClaim c }] ∧
      t.port port = ((s.port port).carryBefore i).defer i ∧ t.port (otherPort port) = s.port (otherPort port) ∧
      t = { s with coach := t.coach, notices := t.notices, portA := t.portA, portB := t.portB }) ∧
  (∀ (s : State) (p : Pos) (c : Source) (ns : List Notice), s.finds .coach (.record p) (.attachClaim c) ns →
    let s' : State := { s with notices := ns }
    exec (.attachClaim p) s = .next
      (if (s.pos p).callState = .idle then s'.tell (.record p) .coach (.attachRefusal c .state)
       else if (s.pos p).coach.isSome then s'.tell (.record p) .coach (.attachRefusal c .inUse)
       else (s'.modPos p (fun r => { r with coach := some c })).tell (.record p) .coach (.attachAccept c))) ∧
  (∀ (s : State) (p : Pos) (c : Source) (a : Attaching) (ns : List Notice), s.finds (.record p) .coach (.attachAccept c) ns →
    (s.source c).attaching = some a →
    ∃ t, exec (.attachAccept p) s = .next t ∧
      t.source c = { s.source c with
        attachment := .attached, position := some p, callSerial := look s.coach.serials p, mode := a.mode,
        voiceActive := false, voiceHangover := 0, attaching := none } ∧
      (∀ d, d ≠ c → t.source d = s.source d) ∧
      Raises s t .coach [.coachAttached c p (look s.coach.serials p) a.mode] ∧
      t.port a.port = (s.port a.port).respond a.slot .ok
        ([byte c.val, byte p.val, look s.coach.serials p] ++ outCoachMode a.mode) ∧
      t.port (otherPort a.port) = s.port (otherPort a.port) ∧ t.coach.serials = s.coach.serials ∧
      t = { s with coach := t.coach, notices := ns, raised := t.raised, portA := t.portA, portB := t.portB }) ∧
  (∀ (s : State) (p : Pos) (c : Source) (a : Attaching) (st : Status) (ns : List Notice),
    s.finds (.record p) .coach (.attachRefusal c st) ns → (s.source c).attaching = some a →
    ∃ t, exec (.attachRefusal p) s = .next t ∧
      t.source c = { s.source c with attachment := .unattached, position := none, attaching := none } ∧
      (∀ d, d ≠ c → t.source d = s.source d) ∧ t.port a.port = (s.port a.port).respond a.slot st [] ∧
      t.port (otherPort a.port) = s.port (otherPort a.port) ∧ t.coach.serials = s.coach.serials ∧
      t = { s with coach := t.coach, notices := ns, portA := t.portA, portB := t.portB })

/-- R114: a source leaves ATTACHED by DETACH_COACH or by the call-ended notice of its position; the record takes the detach
notice of its own source and call. A DETACH_COACH of a source outside 0–3 is refused RANGE. -/
def Claim.CoachDetaches : Prop :=
  (∀ (port : PortId) (i : ReqSlot) (s : State) (b : Byte), s.admits port i .detachCoach [b] → 4 ≤ b.toNat →
    Claim.refuses s (.detachCoach port i) port i .range) ∧
  (∀ (port : PortId) (i : ReqSlot) (s : State) (c : Source), s.admits port i .detachCoach [byte c.val] →
    ((s.source c).attachment = .unattached →
      ∃ t, exec (.detachCoach port i) s = .next t ∧ Answered s t port i .state [] ∧
        t = { s with portA := t.portA, portB := t.portB }) ∧
    ((s.source c).attachment = .pending →
      ∃ t, exec (.detachCoach port i) s = .next t ∧ Answered s t port i .busy [] ∧
        t = { s with portA := t.portA, portB := t.portB }) ∧
    (∀ p : Pos, (s.source c).attachment = .attached → (s.source c).position = some p →
      ∃ t, exec (.detachCoach port i) s = .next t ∧
        t.source c = { s.source c with attachment := .unattached, position := none } ∧
        (∀ d, d ≠ c → t.source d = s.source d) ∧
        t.notices = s.notices ++ [{ src := .coach, dst := .record p, tidings := .detach c (s.source c).callSerial }] ∧
        Raises s t .coach [.coachDetached c p (s.source c).callSerial .request] ∧ Answered s t port i .ok [] ∧
        t = { s with coach := t.coach, notices := t.notices, raised := t.raised, portA := t.portA, portB := t.portB })) ∧
  (∀ (s : State) (p : Pos) (c : Source) (serial : Byte) (ns : List Notice), s.finds .coach (.record p) (.detach c serial) ns →
    exec (.detachNotice p) s = .next
      (if (s.pos p).callSerial = serial ∧ (s.pos p).coach = some c then
        { s with notices := ns }.modPos p (fun r => { r with coach := none })
       else { s with notices := ns })) ∧
  (∀ (s : State) (p : Pos) (serial : Byte) (grace : Nat) (ns : List Notice),
    s.finds (.record p) .coach (.callStarted serial grace) ns →
    ∃ t, exec (.coachCallStarted p) s = .next t ∧ t.coach.serials = put s.coach.serials p serial ∧
      t.coach.sources = s.coach.sources ∧ t = { s with coach := t.coach, notices := ns }) ∧
  (∀ (s : State) (p : Pos) (ns : List Notice), s.finds (.record p) .coach .callEnded ns →
    ∃ t, exec (.coachCallEnded p) s = .next t ∧
      (∀ c, t.source c =
        if (s.source c).attachment = .attached ∧ (s.source c).position = some p then
          { s.source c with attachment := .unattached, position := none }
        else s.source c) ∧
      Raises s t .coach
        ((allSources.filter (fun c => decide ((s.source c).attachment = .attached ∧ (s.source c).position = some p))).map
          (fun c => .coachDetached c p (s.source c).callSerial .cleared)) ∧
      t = { s with coach := t.coach, notices := ns, raised := t.raised })

/-- R115: SET_COACH_MODE writes what it carries, in every attachment state, and answers with the whole record; a change of mode
on an ATTACHED source raises COACH_MODE_CHANGED, and nothing else raises an event. A source or a mode outside its range is
refused RANGE. (The widths and the order of the fields of the OK response: assumptions 12 and 23.) -/
def Claim.SetCoachMode : Prop :=
  (∀ (port : PortId) (i : ReqSlot) (s : State) (c : Byte) (m : Option Byte) (level : Option (BitVec 16)),
    s.admits port i .setCoachMode (c :: outOpt (fun b => [b]) m ++ outOpt (fun l => out16 l.toNat) level) →
    (4 ≤ c.toNat ∨ ∃ b ∈ m, 3 ≤ b.toNat) → Claim.refuses s (.setCoachMode port i) port i .range) ∧
  ∀ (port : PortId) (i : ReqSlot) (s : State) (c : Source) (m : Option CoachMode) (level : Option (BitVec 16)),
    s.admits port i .setCoachMode (byte c.val :: outOpt outCoachMode m ++ outOpt (fun l => out16 l.toNat) level) →
    let r := s.source c
    let after : CoachRec := { r with mode := m.getD r.mode, level := (level.map BitVec.toNat).getD r.level }
    ∃ t, exec (.setCoachMode port i) s = .next t ∧ t.source c = after ∧ (∀ d, d ≠ c → t.source d = s.source d) ∧
      t.coach.serials = s.coach.serials ∧
      Raises s t .coach
        (match r.attachment, r.position with
         | .attached, some p => if after.mode = r.mode then [] else [.coachModeChanged c p r.callSerial r.mode after.mode]
         | _, _ => []) ∧
      Answered s t port i .ok
        (outOpt outFin r.rxSlot ++ outOpt outFin r.txSlot ++ outAttachment r.attachment ++ outOpt outFin r.position
          ++ outCoachMode after.mode ++ out16 after.level ++ outBool r.voiceActive) ∧
      t = { s with coach := t.coach, raised := t.raised, portA := t.portA, portB := t.portB }

/-- R116, R117: at its frame boundary the coach unit hands the mixer a coach frame of each ATTACHED source and of no other, with
the voice activity of the frame. -/
def Obligations.CoachFrame : Prop :=
  ∀ s : State, s.bus.coachDue = true →
    ∃ t, exec .coachFrame s = .next t ∧ t.bus.coachDue = false ∧ t.coach.serials = s.coach.serials ∧
      (∀ c : Source,
        let r := s.source c
        let voice := if r.rxSlot.isSome then fitTo 64 0 (look s.bus.voices c) else List.replicate 64 0
        let loud := decide (4000 ≤ energy voice)
        let after : CoachRec :=
          { r with voiceActive := loud || decide (0 < r.voiceHangover)
                   voiceHangover := if loud then 8 else r.voiceHangover - 1 }
        match r.attachment, r.position with
        | .attached, some p =>
          t.source c = after ∧
            look t.bus.coachOut c =
              some { voice := voice, position := p, mode := r.mode, level := r.level, active := after.voiceActive }
        | _, _ => t.source c = r ∧ look t.bus.coachOut c = none) ∧
      t = { s with coach := t.coach, bus := { s.bus with coachDue := t.bus.coachDue, coachOut := t.bus.coachOut } }

/-! ### The hold service (chapter 7) -/

/-- R122: the sequencer takes a hold-start notice in either state: a new hold from 0, its interval and limit in frames as R121
gives, and, where an announcement is due at the start, its notice at once. -/
def Claim.HoldStarts : Prop :=
  ∀ (s : State) (p : Pos) (n : HoldNotice) (ns : List Notice), s.finds (.record p) .seq (.holdStart n) ns →
    let interval := if n.interval = 0 then none else some (max 5 (min 600 n.interval) * 250)
    let atOnce := n.announceOn && n.atStart
    ∃ t, exec (.holdStart p) s = .next t ∧ (∀ q, q ≠ p → t.seq q = s.seq q) ∧
      t.seq p =
        { counting := true, elapsed := 0
          nextAnnounce := if n.announceOn then interval else none
          interval := interval, announceOn := n.announceOn
          limit := if n.limit = 0 then none else some (n.limit * 250)
          limitReported := false, callSerial := n.serial, holdNumber := n.holdNumber } ∧
      t.notices = ns ++ (if atOnce then
        [{ src := .seq, dst := .record p, tidings := .announceDue n.serial n.holdNumber 0 }] else []) ∧
      t = { s with seqs := t.seqs, notices := t.notices }

/-- R125, R126: the sequencer takes a hold-change and a stop of the hold it counts, and discards those of another. -/
def Claim.HoldChangesAndStops : Prop :=
  ∀ (s : State) (p : Pos) (ns : List Notice),
    let r := s.seq p
    let s' : State := { s with notices := ns }
    (∀ n : HoldNotice, s.finds (.record p) .seq (.holdChange n) ns →
      let interval := if n.interval = 0 then none else some (max 5 (min 600 n.interval) * 250)
      let limit := if n.limit = 0 then none else some (n.limit * 250)
      exec (.holdChange p) s = .next
        (if r.counting = true ∧ r.holdNumber = n.holdNumber then
          s'.modSeq p (fun r => { r with
            interval := interval, limit := limit, announceOn := n.announceOn
            nextAnnounce := interval.bind (fun i =>
              if n.announceOn = true ∧ r.elapsed + i ≤ 16777215 then some (r.elapsed + i) else none)
            limitReported := r.limitReported && decide (r.limit = limit) })
         else s')) ∧
    (∀ (h : Byte) (capture : Bool), s.finds (.record p) .seq (.holdStop h capture) ns →
      let stopped := if r.counting = true ∧ r.holdNumber = h then s'.modSeq p (fun r => { r with counting := false }) else s'
      exec (.holdStop p) s = .next
        (if capture then stopped.modPos p (fun x => { x with lastHoldFrames := r.elapsed }) else stopped))

/-- R123: at a frame boundary every COUNTING record counts, saturating, reports its limit once, and hands the record the
announcement that falls due; a STOPPED record does nothing. The boundary at which position `p` meets its limit, or its
next announcement, is taken in the same way (assumption 4), and the events and notices of several positions come in ascending
order of position (assumption 43). -/
def Obligations.HoldFrame : Prop :=
  ∀ (s : State) (c : Instr), s.bus.holdDue = true →
    let count := fun (r : SeqRec) => if r.elapsed < 16777215 then r.elapsed + 1 else r.elapsed
    let passed := fun (r : SeqRec) => r.limit.any (fun l => decide (l ≤ count r)) && !r.limitReported
    let due := fun (r : SeqRec) => decide (r.nextAnnounce = some (count r))
    (c = .holdFrame ∨ (∃ p, c = .holdLimit p ∧ (s.seq p).counting = true ∧ passed (s.seq p) = true) ∨
      (∃ p, c = .announceDue p ∧ (s.seq p).counting = true ∧ due (s.seq p) = true)) →
    ∃ t, exec c s = .next t ∧ t.bus = { s.bus with holdDue := false } ∧
      (∀ p : Pos, t.seq p =
        let r := s.seq p
        if r.counting then
          { r with
            elapsed := count r
            limitReported := r.limitReported || passed r
            nextAnnounce :=
              if due r then
                r.interval.bind (fun i => if count r + i ≤ 16777215 then some (count r + i) else none)
              else r.nextAnnounce }
        else r) ∧
      Raises s t .seq ((allPos.filter (fun p => (s.seq p).counting && passed (s.seq p))).map (fun p =>
        let r := s.seq p
        .holdLimit p r.callSerial r.holdNumber (r.limit.getD 0) (count r))) ∧
      t.notices = s.notices ++ (allPos.filter (fun p => (s.seq p).counting && due (s.seq p))).map (fun p =>
        let r := s.seq p
        { src := .seq, dst := .record p, tidings := .announceDue r.callSerial r.holdNumber (count r) }) ∧
      t = { s with seqs := t.seqs, bus := t.bus, notices := t.notices, raised := t.raised }

/-! ### Prompt players (chapter 8) -/

/-- R136: the log-8 byte: its sign, segment and mantissa give the sample, the 256 samples lie within ±31744, and a byte with the
sign set gives the negative of the byte without it. -/
def Obligations.LogEightSamples : Prop :=
  (∀ b : Byte, logSample b =
    let m := b.toNat % 16
    let seg := b.toNat / 16 % 8
    let x : Int := ((if seg = 0 then m * 16 else (16 + m) * 2 ^ (seg + 3) : Nat) : Int)
    if 128 ≤ b.toNat then -x else x) ∧
  (∀ b : Byte, -31744 ≤ logSample b ∧ logSample b ≤ 31744) ∧
  (∀ b : Byte, b.toNat < 128 → logSample (b ||| 0x80) = -logSample b) ∧
  (∀ b c : Byte, b.toNat < c.toNat → c.toNat < 128 → logSample b < logSample c)

/-- R145: the allocator takes a whisper request or an announcement request: skipped where its prompt is not VALID, granted where
a POOL player is IDLE, skipped where a CONNECT request may not wait, else it joins the queue behind its class. -/
def Obligations.AllocatorTakesARequest : Prop :=
  ∀ (s : State) (p : Pos) (e : QueueEntry) (ns : List Notice) (c : Instr), e.position = p → e.waited = 0 →
    ((c = .whisperRequest p ∧ (e.kind = .connect ∨ e.kind = .recorded) ∧
        s.finds (.record p) .player (.whisperRequest e.serial e.number e.kind e.prompt e.waitLimit) ns) ∨
      (c = .announceRequest p ∧ e.kind = .announce ∧ e.waitLimit = 0 ∧
        s.finds (.record p) .player (.announceRequest e.serial e.number e.prompt) ns)) →
    let s' : State := { s with notices := ns }
    let ok := s.playerUnit.fault = false ∧ s.promptValid e.prompt = true
    let busy := ∀ k : PlayerNo, ¬((s.player k).role = .pool ∧ (s.player k).state = .idle)
    (¬ok → exec c s = .next (skipEntry e .noPrompt s')) ∧
    (∀ (k : PlayerNo) (x : Entry), ok → s.entry? e.prompt = some x → (s.player k).role = .pool → (s.player k).state = .idle →
      (∀ j : PlayerNo, j.val < k.val → ¬((s.player j).role = .pool ∧ (s.player j).state = .idle)) →
      ∃ t, exec c s = .next t ∧
        t.player k = { s.player k with
          state := .priming, prompt := some x.id, cursor := 0, fetchOffset := 0, playedFrames := 0, buffer := [],
          level := x.level.getD 0, fetch := (s.player k).fetch.staled, underrunEpisode := false,
          length := x.length.getD 0, firstSector := x.first, loopPoint := x.loopPoint,
          assignment := some { position := p, serial := e.serial, kind := e.kind, number := e.number } } ∧
        (∀ j, j ≠ k → t.player j = s.player j) ∧ t.playerUnit.queue = s.playerUnit.queue ∧
        t.notices = ns ++
          [{ src := .player, dst := .store, tidings := .takeUp k e.prompt },
           { src := .player, dst := .record p, tidings := grantedNotice e.kind e.serial e.number k }] ∧
        t = { s with playerUnit := t.playerUnit, notices := t.notices }) ∧
    (ok → busy → e.kind = .connect → e.waitLimit = 0 → exec c s = .next (skipEntry e .waitLimit s')) ∧
    (∀ ahead behind : List QueueEntry, ok → busy → (e.kind ≠ .connect ∨ e.waitLimit ≠ 0) →
      s.playerUnit.queue = ahead ++ behind → (∀ x ∈ ahead, x.kind.rank ≤ e.kind.rank) →
      (∀ x ∈ behind, e.kind.rank < x.kind.rank) →
      ∃ t, exec c s = .next t ∧ t.playerUnit = { s.playerUnit with queue := ahead ++ e :: behind } ∧
        t.notices = ns ++ [{ src := .player, dst := .store, tidings := .entryJoined e.prompt }] ∧
        t = { s with playerUnit := t.playerUnit, notices := t.notices })

/-- R109, R110, R127, R146, R147, R148: a cancel, an announcement-end and the release of a CLEAR end the one-shots they match,
waiting or with a player: afterwards none of them waits and none has a player. The entries that do not match stay in the wait
queue in their order, and its head entries are granted to the players of the pool that are then IDLE, the lowest-numbered first;
no other player changes, but for the subscription that a CLEAR takes away. The store is told of each entry that left the queue,
of each prompt let go and of each taken up (R166), and the records of the grants alone. The events come first for the entries
that wait, in queue order, and then for the players in ascending order (assumption 43). -/
def Obligations.OneShotsEndWhenTold : Prop :=
  ∀ (s : State) (p : Pos) (c : Instr) (match_ : Assignment → Bool) (cause : EndCause)
    (ns : List Notice),
    ((∃ serial number kind, c = .whisperCancel p ∧ cause = .cancelled ∧
        s.finds (.record p) .player (.whisperCancel serial number kind) ns ∧
        match_ = fun a => decide (a = { position := p, serial := serial, kind := kind, number := number })) ∨
      (∃ serial number, c = .announceEnd p ∧ s.finds (.record p) .player (.announceEnd serial number cause) ns ∧
        match_ = fun a => decide (a = { position := p, serial := serial, kind := .announce, number := number })) ∨
      (c = .playerClearRelease p ∧ cause = .cleared ∧ s.finds (.record p) .player .clearRelease ns ∧
        match_ = fun a => decide (a.position = p))) →
    let x := fun (k : PlayerNo) =>
      if c = .playerClearRelease p then
        { s.player k with subscribers := (s.player k).subscribers.filter (fun q => decide (q ≠ p)) } else s.player k
    let gone := s.playerUnit.queue.filter (fun e => match_ e.assignment)
    let kept := s.playerUnit.queue.filter (fun e => !match_ e.assignment)
    let ended := allPlayers.filter (fun k => (x k).assignment.any match_)
    let freed := allPlayers.filter (fun k => (x k).assignment.any match_ || (x k).idlePool)
    let granted := List.zip freed kept
    ∃ t, exec c s = .next t ∧
      t.playerUnit.queue = kept.drop freed.length ∧
      (∀ k, (t.player k).assignment.any match_ = false) ∧
      Raises s t .player
        (gone.map (fun e => oneShotEnded e.assignment e.prompt cause 0)
          ++ allPlayers.filterMap (fun k => ((s.player k).assignment.filter match_).map (fun a =>
            oneShotEnded a ((s.player k).prompt.getD 0) cause (s.player k).playedFrames))) ∧
      Hands ns t.notices .player (fun dst =>
        if dst = .store then
          gone.map (fun e => .entryLeft e.prompt)
            ++ ended.flatMap (fun k =>
              ((x k).prompt.map (fun old => Tidings.letGo k (decide ((x k).role = .music)) old)).toList)
            ++ granted.flatMap (fun y =>
              (if (s.entry? y.2.prompt).isSome then [.takeUp y.1 y.2.prompt] else []) ++ [.entryLeft y.2.prompt])
        else
          (granted.filter (fun y => decide (dst = .record y.2.position))).map
            (fun y => grantedNotice y.2.kind y.2.serial y.2.number y.1)) ∧
      (∀ k, k ∉ freed → t.player k = x k) ∧
      (∀ y ∈ granted, ∀ e : Entry, s.entry? y.2.prompt = some e →
        t.player y.1 = { x y.1 with
          role := .pool, state := .priming, prompt := some e.id, cursor := 0, fetchOffset := 0, playedFrames := 0,
          buffer := [], level := e.level.getD 0, underrunEpisode := false, length := e.length.getD 0,
          firstSector := e.first, loopPoint := e.loopPoint, fetch := (x y.1).fetch.staled,
          assignment := some { position := y.2.position, serial := y.2.serial, kind := y.2.kind, number := y.2.number } }) ∧
      (∀ k ∈ freed.drop kept.length, t.player k =
        if k ∈ ended then
          { x k with role := .pool, state := .idle, prompt := none, fetch := (x k).fetch.staled, buffer := [],
                     assignment := none }
        else x k) ∧
      t.playerUnit.limits = s.playerUnit.limits ∧ t.playerUnit.fault = s.playerUnit.fault ∧
      t = { s with playerUnit := t.playerUnit, notices := t.notices, raised := t.raised }

/-- R143, R104: a subscription to a MUSIC player joins its set, each position once, and one to a POOL player is refused with a
notice; an unsubscription leaves the set; a whisper_limit notice sets the copy of its position. -/
def Claim.SubscriptionsAndLimits : Prop :=
  ∀ (s : State) (p : Pos) (k : PlayerNo) (serial : Byte) (ns : List Notice),
    (s.finds (.record p) .player (.subscribe serial k) ns →
      ((s.player k).role = .music →
        ∃ t, exec (.subscription p) s = .next t ∧
          (∀ q, q ∈ (t.player k).subscribers ↔ q = p ∨ q ∈ (s.player k).subscribers) ∧
          ((s.player k).subscribers.Pairwise (fun a b => a.val < b.val) →
            (t.player k).subscribers.Pairwise (fun a b => a.val < b.val)) ∧
          t.player k = { s.player k with subscribers := (t.player k).subscribers } ∧
          (∀ j, j ≠ k → t.player j = s.player j) ∧ t.playerUnit.queue = s.playerUnit.queue ∧
          t = { s with playerUnit := t.playerUnit, notices := ns }) ∧
      ((s.player k).role = .pool →
        exec (.subscription p) s =
          .next ({ s with notices := ns }.tell .player (.record p) (.subscriptionRefused serial k)))) ∧
    (s.finds (.record p) .player (.unsubscribe serial k) ns →
      exec (.unsubscription p) s = .next ({ s with notices := ns }.modPlayer k (fun x =>
        { x with subscribers := x.subscribers.filter (fun q => decide (q ≠ p)) }))) ∧
    (∀ n, s.finds (.record p) .player (.whisperLimit n) ns →
      exec (.whisperLimitNotice p) s = .next { s with
        notices := ns, playerUnit := { s.playerUnit with limits := put s.playerUnit.limits p n } })

/-- R149, R150: a retire notice takes the prompt's entries out of the queue and is acknowledged (R167); a store-fault notice
takes every entry out, stops every MUSIC player and lets every one-shot end with its buffer. The store is told of each entry that
left, and of the prompt each stopped player let go (R166), and the record of each entry that its one-shot was SKIPPED (R103,
R130). -/
def Claim.StoreUnderThePlayers : Prop :=
  (∀ (s : State) (prompt : Nat) (ns : List Notice), s.finds .store .player (.retire prompt) ns →
    let gone := s.playerUnit.queue.filter (fun e => decide (e.prompt = prompt))
    ∃ t, exec .retireNotice s = .next t ∧
      t.playerUnit = { s.playerUnit with queue := s.playerUnit.queue.filter (fun e => decide (e.prompt ≠ prompt)) } ∧
      Raises s t .player (gone.map (fun e => oneShotSkipped e .retired)) ∧
      Hands ns t.notices .player (fun dst =>
        if dst = .store then gone.map (fun e => .entryLeft e.prompt) ++ [.retireAck prompt]
        else (gone.filter (fun e => decide (dst = .record e.position))).map
          (fun e => overNotice e.kind e.serial e.number .skipped)) ∧
      t = { s with playerUnit := t.playerUnit, notices := t.notices, raised := t.raised }) ∧
  (∀ (s : State) (ns : List Notice), s.finds .store .player .storeFault ns →
    ∃ t, exec .storeFaultNotice s = .next t ∧ t.playerUnit.queue = [] ∧ t.playerUnit.fault = true ∧
      t.playerUnit.limits = s.playerUnit.limits ∧
      Raises s t .player (s.playerUnit.queue.map (fun e => oneShotSkipped e .noPrompt)) ∧
      Hands ns t.notices .player (fun dst =>
        if dst = .store then
          (allPlayers.filter (fun k => decide ((s.player k).role = .music ∧ (s.player k).state ≠ .idle))).flatMap (fun k =>
              ((s.player k).prompt.map (fun old => Tidings.letGo k true old)).toList)
            ++ s.playerUnit.queue.map (fun e => .entryLeft e.prompt)
        else (s.playerUnit.queue.filter (fun e => decide (dst = .record e.position))).map
          (fun e => overNotice e.kind e.serial e.number .skipped)) ∧
      (∀ k, (t.player k).role = (s.player k).role ∧ (t.player k).subscribers = (s.player k).subscribers ∧
        (t.player k).level = (s.player k).level ∧ (t.player k).fetch = (s.player k).fetch.staled ∧
        (t.player k).assignment = (s.player k).assignment ∧
        ((s.player k).role = .music → (t.player k).state = .idle ∧ ((s.player k).state ≠ .idle → (t.player k).prompt = none)) ∧
        ((s.player k).role = .pool → (t.player k).state = (s.player k).state ∧ (t.player k).buffer = (s.player k).buffer ∧
          (t.player k).prompt = (s.player k).prompt ∧ (t.player k).cursor = (s.player k).cursor ∧
          ((s.player k).assignment.isSome = true →
            (t.player k).length = (s.player k).cursor + (s.player k).buffer.length))) ∧
      t = { s with playerUnit := t.playerUnit, notices := t.notices, raised := t.raised })

/-- R140: SET_MUSIC on a player that holds the named prompt as music changes its level alone; on a player that may take the
prompt up it starts the loop, and counts it in the catalogue (R166). It is refused RANGE for a player outside 0–5, BUSY for a
POOL player with an assignment, and by the store's claim NOT_READY, STORE_FAULT, NO_PROMPT or RANGE; the notices the player unit
delivered to the store before the claim are taken first (assumption 32). (The widths and the order of the fields of the OK
response: assumptions 12 and 23.) -/
def Claim.SetMusic : Prop :=
  (∀ (port : PortId) (i : ReqSlot) (s : State) (k prompt : Byte) (level : BitVec 16),
    s.admits port i .setMusic (k :: prompt :: out16 level.toNat) → 6 ≤ k.toNat →
    Claim.refuses s (.setMusic port i) port i .range) ∧
  ∀ (port : PortId) (i : ReqSlot) (s : State) (k : PlayerNo) (prompt : Byte) (level : BitVec 16),
    s.admits port i .setMusic (byte k.val :: prompt :: out16 level.toNat) →
    let x := s.player k
    (x.role = .pool → x.assignment.isSome = true →
      ∃ t, exec (.setMusic port i) s = .next t ∧ Answered s t port i .busy [] ∧
        t = { s with portA := t.portA, portB := t.portB }) ∧
    (x.role = .music → x.state ≠ .idle → x.prompt = some prompt.toNat →
      ∃ t, exec (.setMusic port i) s = .next t ∧ t.player k = { x with level := level.toNat } ∧
        (∀ j, j ≠ k → t.player j = s.player j) ∧ t.playerUnit.queue = s.playerUnit.queue ∧
        Answered s t port i .ok ([1, if x.state = .priming then 1 else 2, 1, prompt] ++ out16 level.toNat) ∧
        t = { s with playerUnit := t.playerUnit, portA := t.portA, portB := t.portB }) ∧
    (¬(x.role = .pool ∧ x.assignment.isSome = true) → ¬(x.role = .music ∧ x.state ≠ .idle ∧ x.prompt = some prompt.toNat) →
      let d := s.drain .player .store storeTakes
      (∀ st : Status,
        (((d.store.state = .starting ∨ d.store.state = .scanning) ∧ st = .notReady) ∨
          (d.store.state = .fault ∧ st = .storeFault) ∨
          (d.store.state = .ready ∧ d.promptValid prompt.toNat = false ∧ st = .noPrompt)) →
        ∃ t, exec (.setMusic port i) s = .next t ∧ Answered s t port i st [] ∧
          t = { d with portA := t.portA, portB := t.portB }) ∧
      (∀ e : Entry, d.store.state = .ready → d.entry? prompt.toNat = some e → e.state = .valid →
        (e.length.getD 0 = 0 →
          ∃ t, exec (.setMusic port i) s = .next t ∧ Answered s t port i .range [] ∧
            t = { d with portA := t.portA, portB := t.portB }) ∧
        (0 < e.length.getD 0 →
          ∃ t, exec (.setMusic port i) s = .next t ∧
            t.player k = { x with
              role := .music, state := .priming, prompt := some prompt.toNat, cursor := 0, fetchOffset := 0, buffer := [],
              level := level.toNat, fetch := x.fetch.staled, underrunEpisode := false, length := e.length.getD 0,
              firstSector := e.first, loopPoint := e.loopPoint } ∧
            (∀ j, j ≠ k → t.player j = s.player j) ∧ t.playerUnit.queue = s.playerUnit.queue ∧
            t.store.catalogue = d.store.catalogue.map (fun e => if e.id = prompt.toNat then
              { e with playerRefs := e.playerRefs + 1, musicRefs := e.musicRefs + 1 } else e) ∧
            t.notices = d.notices ++ (match x.prompt with
              | none => []
              | some old => [{ src := .player, dst := .store, tidings := .letGo k (decide (x.role = .music)) old }]) ∧
            Answered s t port i .ok ([1, 1, 1, prompt] ++ out16 level.toNat) ∧
            t = { d with playerUnit := t.playerUnit, store := { d.store with catalogue := t.store.catalogue },
                         notices := t.notices, portA := t.portA, portB := t.portB })))

/-- R141, R142: STOP_MUSIC and RELEASE_MUSIC: refused RANGE for a player outside 0–5, NOT_READY before READY, STORE_FAULT in FAULT,
STATE for a POOL player, and RELEASE_MUSIC IN_USE while a position is subscribed; accepted, the player stops, and a released one
joins the pool, where the head of the wait queue is granted to it at once (R146). -/
def Claim.MusicStopsAndIsReleased : Prop :=
  (∀ (port : PortId) (i : ReqSlot) (s : State),
    (∀ b : Byte, 6 ≤ b.toNat →
      (s.admits port i .stopMusic [b] → Claim.refuses s (.stopMusic port i) port i .range) ∧
      (s.admits port i .releaseMusic [b] → Claim.refuses s (.releaseMusic port i) port i .range)) ∧
    (∀ k : PlayerNo,
      (s.admits port i .stopMusic [byte k.val] →
        Claim.refusedUnlessReady s (.stopMusic port i) port i ∧
        (s.store.state = .ready → (s.player k).role = .pool → Claim.refuses s (.stopMusic port i) port i .state)) ∧
      (s.admits port i .releaseMusic [byte k.val] →
        Claim.refusedUnlessReady s (.releaseMusic port i) port i ∧
        (s.store.state = .ready → (s.player k).role = .pool → Claim.refuses s (.releaseMusic port i) port i .state)))) ∧
  ∀ (port : PortId) (i : ReqSlot) (s : State) (k : PlayerNo), s.store.state = .ready → (s.player k).role = .music →
    let x := s.player k
    let stopped : Player :=
      if x.state = .idle then x
      else { x with state := .idle, prompt := none, fetch := x.fetch.staled, buffer := [], cursor := 0, fetchOffset := 0,
                    underrunEpisode := false }
    let gone := if x.state = .idle then [] else match x.prompt with
      | none => []
      | some old => [{ src := .player, dst := .store, tidings := .letGo k true old }]
    (s.admits port i .stopMusic [byte k.val] →
      ∃ t, exec (.stopMusic port i) s = .next t ∧ t.player k = stopped ∧ (∀ j, j ≠ k → t.player j = s.player j) ∧
        t.notices = s.notices ++ gone ∧ t.playerUnit.queue = s.playerUnit.queue ∧ Answered s t port i .ok [] ∧
        t = { s with playerUnit := t.playerUnit, notices := t.notices, portA := t.portA, portB := t.portB }) ∧
    (s.admits port i .releaseMusic [byte k.val] → x.subscribers ≠ [] →
      Claim.refuses s (.releaseMusic port i) port i .inUse) ∧
    (s.admits port i .releaseMusic [byte k.val] → x.subscribers = [] → s.playerUnit.queue = [] →
      ∃ t, exec (.releaseMusic port i) s = .next t ∧
        t.player k = { stopped with role := .pool, assignment := none, level := 0 } ∧
        (∀ j, j ≠ k → t.player j = s.player j) ∧ t.notices = s.notices ++ gone ∧ t.playerUnit.queue = [] ∧
        Answered s t port i .ok [] ∧
        t = { s with playerUnit := t.playerUnit, notices := t.notices, portA := t.portA, portB := t.portB }) ∧
    (∀ (e : QueueEntry) (rest : List QueueEntry) (c : Entry), s.admits port i .releaseMusic [byte k.val] →
      x.subscribers = [] → s.playerUnit.queue = e :: rest → s.entry? e.prompt = some c →
      (∀ j, j ≠ k → ¬((s.player j).role = .pool ∧ (s.player j).state = .idle)) →
      ∃ t, exec (.releaseMusic port i) s = .next t ∧
        t.player k = { x with
          role := .pool, state := .priming, prompt := some c.id, cursor := 0, fetchOffset := 0, playedFrames := 0,
          buffer := [], level := c.level.getD 0, fetch := x.fetch.staled,
          underrunEpisode := false, length := c.length.getD 0, firstSector := c.first, loopPoint := c.loopPoint,
          assignment := some { position := e.position, serial := e.serial, kind := e.kind, number := e.number } } ∧
        (∀ j, j ≠ k → t.player j = s.player j) ∧ t.playerUnit.queue = rest ∧
        t.notices = s.notices ++ gone ++
          [{ src := .player, dst := .store, tidings := .takeUp k e.prompt },
           { src := .player, dst := .store, tidings := .entryLeft e.prompt },
           { src := .player, dst := .record e.position, tidings := grantedNotice e.kind e.serial e.number k }] ∧
        Answered s t port i .ok [] ∧
        t = { s with playerUnit := t.playerUnit, notices := t.notices, portA := t.portA, portB := t.portB })

/-- R162, R163: the arbiter after an operation that is not an erase has ended: the flash port is free, and a suspended erase
resumes where nothing waits. -/
def Claim.operationEnded (a : Arbiter) : Arbiter :=
  { a with
    current := none
    erase := if a.fetches = [] ∧ a.reads = [] then a.erase.map (fun e => { e with suspended := false }) else a.erase }

/-- R137: the delivery of a fetch: its bytes, as the flash holds them, join the buffer of a player whose fetch is LIVE and end
its underrun episode; those of a STALE fetch are discarded. -/
def Claim.FetchDelivery : Prop :=
  ∀ (s : State) (r : FetchReq), s.arbiter.current = some (.fetch r) → (s.player r.player).fetch ≠ .none →
    ∃ t, exec .fetchDelivery s = .next t ∧
      t.player r.player =
        (if (s.player r.player).fetch = .live then
          { s.player r.player with
            buffer := (s.player r.player).buffer ++ s.flash.readBytes r.addr r.count, fetch := .none,
            underrunEpisode := false }
         else { s.player r.player with fetch := .none }) ∧
      (∀ j, j ≠ r.player → t.player j = s.player j) ∧ t.playerUnit.queue = s.playerUnit.queue ∧
      t.arbiter = Claim.operationEnded s.arbiter ∧
      t = { s with playerUnit := t.playerUnit, arbiter := t.arbiter }

/-- R138: the player leaves PRIMING at the boundary: 256 bytes stand in its buffer, or all that remain of its one-shot. -/
def Claim.leavesPriming (x : Player) : Bool :=
  decide (x.state = .priming) &&
    (decide (256 ≤ x.buffer.length) || (x.assignment.isSome && decide (x.length - x.cursor ≤ x.buffer.length)))

/-- R138, R139: the player plays the frame: it is PLAYING, or it leaves PRIMING with bytes to play. -/
def Claim.playsFrame (x : Player) : Bool :=
  decide (x.state = .playing) ||
    (Claim.leavesPriming x && !(x.assignment.isSome && decide (x.length ≤ x.cursor)))

/-- R139: the bytes the frame needs: 64, or what remains of a one-shot. -/
def Claim.frameNeeds (x : Player) : Nat := if x.assignment.isSome then min 64 (x.length - x.cursor) else 64

/-- R139: the bytes the frame takes from the buffer. -/
def Claim.frameTakes (x : Player) : Nat := min (Claim.frameNeeds x) x.buffer.length

/-- R106, R129, R138, R147: the outcome of a one-shot that ends at the boundary: its audio is consumed, or, of a whisper, its
limit is reached, `frames` being the limit of a player that turns PLAYING. -/
def Claim.shotOver (frames : Nat) (x : Player) : Option WhisperOutcome :=
  match x.assignment with
  | none => none
  | some a =>
    if Claim.playsFrame x then
      if x.length ≤ x.cursor + Claim.frameTakes x then some .ended
      else if a.kind ≠ .announce ∧
          (if x.state = .playing then x.limitFrames else frames) ≤ satSucc 16777215 x.playedFrames then some .cut
      else none
    else if Claim.leavesPriming x then some .ended
    else none

/-- R106, R129, R139: the events of a player at the boundary, in their order. -/
def Claim.frameEvents (frames : Nat) (k : PlayerNo) (x : Player) : List Event :=
  let prompt := x.prompt.getD 0
  let played := if Claim.playsFrame x then satSucc 16777215 x.playedFrames else x.playedFrames
  (match x.assignment with
    | some a => if Claim.playsFrame x = true ∧ x.state ≠ .playing then
        [if a.kind = .announce then .announceStarted a.position a.serial prompt k
         else .whisperStarted a.position a.serial a.kind prompt k frames] else []
    | none => []) ++
  (if Claim.playsFrame x = true ∧ Claim.frameTakes x < Claim.frameNeeds x ∧ x.underrunEpisode = false then
    [.underrun k x.role prompt (x.assignment.map (fun a => (a.position, a.serial, a.kind)))
      (Claim.frameNeeds x - Claim.frameTakes x)] else []) ++
  (match x.assignment, Claim.shotOver frames x with
    | some a, some .cut => [.whisperCut a.position a.serial a.kind prompt played]
    | some a, some _ => [oneShotEnded a prompt .reachedEnd played]
    | _, _ => [])

/-- R137: the player asks for a fetch at the boundary: it holds a prompt, 256 bytes or fewer are left in its buffer, no fetch is
outstanding, and it is MUSIC or has bytes still to fetch. -/
def Claim.asksAtFrame (frames : Nat) (x : Player) : Bool :=
  decide (x.state ≠ .idle) && (Claim.shotOver frames x).isNone && decide (x.fetch = .none) &&
    decide ((if Claim.playsFrame x then x.buffer.length - Claim.frameTakes x else x.buffer.length) ≤ 256) &&
    (decide (x.role = .music) || decide (x.fetchOffset < x.length))

/-- R106, R138, R139: a player after its frame at the boundary: what it played, and whether it was short. `loop` is the cursor of a
player without an assignment. -/
def Claim.afterFrame (frames loop : Nat) (x : Player) : Player :=
  let plays := Claim.playsFrame x
  let took := if plays then Claim.frameTakes x else 0
  let short := decide (plays = true ∧ took < Claim.frameNeeds x)
  { x with
    state := if plays then .playing else x.state
    limitFrames := if plays = true ∧ x.state ≠ .playing then frames else x.limitFrames
    buffer := x.buffer.drop took
    cursor := if x.assignment.isSome then x.cursor + took else loop
    playedFrames := if plays = true ∧ x.assignment.isSome = true then satSucc 16777215 x.playedFrames else x.playedFrames
    underrunCount := if short then satSucc 65535 x.underrunCount else x.underrunCount
    underrunEpisode := x.underrunEpisode || short }

/-- R147: a player whose one-shot has ended at the boundary is released; one that is IDLE in the pool stays as it is. -/
def Claim.comesFree (frames : Nat) (x : Player) : Player :=
  if (Claim.shotOver frames x).isSome then
    { Claim.afterFrame frames 0 x with
      role := .pool, state := .idle, prompt := none, buffer := [], assignment := none, fetch := x.fetch.staled }
  else x

/-- R105, R106, R129, R135, R137, R138, R139, R146: the one-shots, the fetches and the wait queue at the frame boundary. `freed` are the
players that are IDLE in the pool after the frames are played; the queue's head entries are granted to them, the lowest-numbered
player first, the entries left have waited one frame more, and the connect whispers that then have waited their limit are
skipped; a player that comes free and is not granted stays IDLE in the pool, and one that was IDLE there is unchanged. Events and
notices come by player and then in queue order (assumption 43); played_frames saturates (assumption 46), and
waited_frames has no upper bound (assumption 59). A
player released and granted anew at one boundary hands the mixer the last frame of the one-shot it served (the model's reading,
assumption 8). -/
def Claim.OneShotsAtFrame (s t : State) : Prop :=
  let x := fun (k : PlayerNo) => s.player k
  let frames := fun (k : PlayerNo) => (((x k).assignment.map (fun a => look s.playerUnit.limits a.position)).getD 0) * 250
  let done := fun (k : PlayerNo) => Claim.shotOver (frames k) (x k)
  let freed := allPlayers.filter (fun k => (done k).isSome || decide ((x k).role = .pool ∧ (x k).state = .idle))
  let granted := List.zip freed s.playerUnit.queue
  let waits := (s.playerUnit.queue.drop freed.length).map (fun e => { e with waited := e.waited + 1 })
  let skip := fun (e : QueueEntry) => decide (e.kind = .connect ∧ e.waitLimit * 250 ≤ e.waited)
  let ended := allPlayers.filterMap (fun k => match (x k).assignment, done k with
    | some a, some o => some (k, a, o)
    | _, _ => none)
  let asking := allPlayers.filter (fun k => Claim.asksAtFrame (frames k) (x k))
  Raises s t .player
    (allPlayers.flatMap (fun k => Claim.frameEvents (frames k) k (x k)) ++
      (waits.filter skip).map (fun e => oneShotSkipped e .waitLimit)) ∧
  t.playerUnit.queue = waits.filter (fun e => !skip e) ∧
  Hands s.notices t.notices .player (fun dst =>
    if dst = .store then
      ended.flatMap (fun y => ((x y.1).prompt.map (fun old => Tidings.letGo y.1 (decide ((x y.1).role = .music)) old)).toList)
        ++ granted.flatMap (fun y =>
          (if (s.entry? y.2.prompt).isSome then [.takeUp y.1 y.2.prompt] else []) ++ [.entryLeft y.2.prompt])
        ++ (waits.filter skip).map (fun e => .entryLeft e.prompt)
    else
      (ended.filter (fun y => decide (dst = .record y.2.1.position))).map
          (fun y => overNotice y.2.1.kind y.2.1.serial y.2.1.number y.2.2)
        ++ (granted.filter (fun y => decide (dst = .record y.2.position))).map
          (fun y => grantedNotice y.2.kind y.2.serial y.2.number y.1)
        ++ ((waits.filter skip).filter (fun e => decide (dst = .record e.position))).map
          (fun e => overNotice e.kind e.serial e.number .skipped)) ∧
  t.arbiter = { s.arbiter with
    fetches := s.arbiter.fetches ++ asking.map (fun k =>
      { player := k, addr := (x k).firstSector * 4096 + 64 + (x k).fetchOffset,
        count := min 256 ((x k).length - (x k).fetchOffset) }) } ∧
  (∀ y ∈ granted,
    (∀ c : Entry, s.entry? y.2.prompt = some c →
      t.player y.1 = { Claim.comesFree (frames y.1) (x y.1) with
        role := .pool, state := .priming, prompt := some c.id, cursor := 0, fetchOffset := 0, playedFrames := 0, buffer := [],
        level := c.level.getD 0, underrunEpisode := false, length := c.length.getD 0, firstSector := c.first,
        loopPoint := c.loopPoint, fetch := (x y.1).fetch.staled,
        assignment := some { position := y.2.position, serial := y.2.serial, kind := y.2.kind, number := y.2.number } } ∧
      ((x y.1).assignment = none → look t.bus.playerOut y.1 =
        some { samples := List.replicate 64 0, level := c.level.getD 0, playing := false, subscribers := [],
               served := some (y.2.position, y.2.kind) })) ∧
    (s.entry? y.2.prompt = none → t.player y.1 = Claim.comesFree (frames y.1) (x y.1))) ∧
  (∀ k ∈ freed.drop s.playerUnit.queue.length, t.player k = Claim.comesFree (frames k) (x k) ∧
    ((x k).assignment = none → look t.bus.playerOut k = none)) ∧
  (∀ k, k ∉ freed → ∀ asks : Bool, asks = decide (k ∈ asking) →
    t.player k = { Claim.afterFrame (frames k) (t.player k).cursor (x k) with
      fetch := if asks then .live else (x k).fetch
      fetchOffset := if asks then (t.player k).fetchOffset else (x k).fetchOffset } ∧
    (asks = true → (x k).role = .pool →
      (t.player k).fetchOffset = (x k).fetchOffset + min 256 ((x k).length - (x k).fetchOffset))) ∧
  (∀ (k : PlayerNo) (a : Assignment), (x k).role = .pool → (x k).assignment = some a →
    let took := if Claim.playsFrame (x k) then Claim.frameTakes (x k) else 0
    look t.bus.playerOut k =
      some { samples := ((x k).buffer.take took).map logSample ++ List.replicate (64 - took) 0, level := (x k).level,
             playing := Claim.playsFrame (x k), subscribers := [], served := some (a.position, a.kind) })

/-- R139, R137: a loop at the frame boundary: its cursor, and the offset of the fetch it asks for, go on at the loop point, or at
byte 0 where it has none, when they reach the prompt's end. It hands the mixer its frame while a position is subscribed (R94). -/
def Claim.LoopsAtFrame (s t : State) : Prop :=
  ∀ k : PlayerNo,
    let x := s.player k
    let start := match x.loopPoint with
      | some n => if n < x.length then n else 0
      | none => 0
    let took := if Claim.playsFrame x then Claim.frameTakes x else 0
    x.role = .music → x.assignment = none →
      (x.cursor < x.length →
        (t.player k).cursor =
          (if x.cursor + took < x.length then x.cursor + took
           else start + (x.cursor + took - x.length) % (x.length - start)) ∧
        (t.player k).fetchOffset =
          (if Claim.asksAtFrame 0 x = false then x.fetchOffset
           else if x.length ≤ x.fetchOffset + 256 then start else x.fetchOffset + 256)) ∧
      (x.state = .idle → t.player k = x) ∧
      look t.bus.playerOut k =
        (if x.subscribers = [] then none
         else some { samples := (x.buffer.take took).map logSample ++ List.replicate (64 - took) 0, level := x.level,
                     playing := Claim.playsFrame x, subscribers := x.subscribers, served := none })

/-- R135, R139: the player unit takes its frame boundary; so are those at which the whisper of a player meets its limit (R106)
and at which a waiting connect whisper meets its own (R105; assumption 4). A PLAYING player that is not starved takes 64
bytes of music from its buffer, and no player's buffer grows; the one-shots, the fetches and the wait queue go as
`Claim.OneShotsAtFrame` says and the loops as `Claim.LoopsAtFrame`: WHISPER_STARTED, WHISPER_ENDED, the ANNOUNCE events,
UNDERRUN, the cut at a limit, the fetch requests, the grants of R146 and the skips of R148. Events and notices come by player and
then in queue order (assumption 43), played_frames saturates (assumption 46), and waited_frames has no upper bound (assumption
59); a player released and granted anew at one
boundary hands the mixer the last frame of its old one-shot (the model's reading, assumption 8). -/
def Obligations.PlayerFrame : Prop :=
  ∀ (s : State) (c : Instr), s.bus.playerDue = true →
    (c = .playerFrame ∨ (∃ k, c = .whisperCut k ∧ cutsAt k s = true) ∨ (∃ p, c = .connectWaitLimit p ∧ waitsOut p s = true)) →
    ∃ t, exec c s = .next t ∧ t.bus.playerDue = false ∧
      (∀ k, (t.player k).buffer.length ≤ (s.player k).buffer.length) ∧
      (∀ k, (s.player k).role = .music → (s.player k).assignment = none → (s.player k).state = .playing →
        64 ≤ (s.player k).buffer.length →
        (t.player k).buffer = (s.player k).buffer.drop 64 ∧ (t.player k).underrunCount = (s.player k).underrunCount ∧
        ((s.player k).subscribers ≠ [] → look t.bus.playerOut k =
          some { samples := ((s.player k).buffer.take 64).map logSample, level := (s.player k).level, playing := true,
                 subscribers := (s.player k).subscribers, served := none })) ∧
      Claim.OneShotsAtFrame s t ∧ Claim.LoopsAtFrame s t ∧
      t.playerUnit.limits = s.playerUnit.limits ∧ t.playerUnit.fault = s.playerUnit.fault ∧
      t = { s with playerUnit := t.playerUnit, arbiter := t.arbiter, notices := t.notices, raised := t.raised,
                   bus := { s.bus with playerDue := false, playerOut := t.bus.playerOut } }

/-! ### The highway (chapter 2) -/

/-- No block has a frame boundary still to take (R29). -/
def Claim.noFrameDue (s : State) : Prop :=
  s.bus.echoDue = false ∧ s.bus.coachDue = false ∧ s.bus.playerDue = false ∧ s.bus.holdDue = false ∧ s.bus.mixDue = false

/-- R34, R35: while sync is not held, a good sync counts up, a miss returns the count to 0 and a misplaced pulse makes it 1;
the 16th good sync restores sync: SYNC_RESTORED is raised under the frame counter's old value, and the sample period it opens
is the first of a collection period, in which every bound transmit slot drives 0. (SYNC_RESTORED as a row of its own:
assumption 4. The roles in force in a collection period: 21. The floor of the milliseconds lost: 22.) -/
def Claim.SearchForSixteenSyncs : Prop :=
  ∀ (s : State) (rx : RxPeriod), s.highway.sync ≠ .inSync →
    (s.highway.goodCount < 15 → exec (.syncPulse rx) s =
      .next { s with highway := { s.highway with goodCount := s.highway.goodCount + 1 } }) ∧
    (∀ bits : Option RxPeriod, exec (.syncMiss bits) s = .next { s with highway := { s.highway with goodCount := 0 } }) ∧
    (∀ (late : Bool) (n : Nat), exec (.misplacedSync late n rx) s =
      .next { s with highway := { s.highway with goodCount := 1 } }) ∧
    (∀ c : Instr, 15 ≤ s.highway.goodCount → (c = .syncPulse rx ∨ c = .syncRestored rx) →
      ∃ t, exec c s = .next t ∧
        t.highway = { s.highway with
          sync := .inSync, goodCount := 16, missCount := 0, sinceMisplaced := none,
          frameCounter := s.highway.frameCounter + 1, sampleIx := 1, collecting := true,
          collected := [rx.toList.map BitVec.toInt], txPins := t.highway.txPins } ∧
        (∀ n : Timeslot, look t.highway.txPins n =
          if look s.highway.roles.tx n = .unbound then none else some 0) ∧
        Raises s t .highway
          [if s.highway.sync = .lost then .syncRestored .recovery (min 65535 (s.highway.lossMicros / 1000))
           else .syncRestored .start 0] ∧
        t = { s with highway := t.highway, raised := t.raised })

/-- R32: a sample period in IN_SYNC begins, with the receive samples `rx` where it has bit clocks: at a good sync, which returns the
miss count to 0, or at a first or second miss, which raises it by 1, a misplaced pulse among them. `misses` and `since` are the
miss count, and the distance from the latest misplaced pulse to the next expected instant, that it leaves; a missed period counts
as 512 bit clocks in that distance, also where it carries none (the model's choice, assumption 58). -/
def Claim.periodBegins (s : State) (c : Instr) (rx : Option RxPeriod) (misses : Nat) (since : Option Nat) : Prop :=
  (∃ w, c = .syncPulse w ∧ rx = some w ∧ misses = 0 ∧ since = none) ∨
    (c = .syncMiss rx ∧ s.highway.missCount < 2 ∧ misses = s.highway.missCount + 1 ∧
      since = s.highway.sinceMisplaced.map (fun a => a + 512)) ∨
    (∃ late n w, c = .misplacedSync late n w ∧ rx = some w ∧ s.highway.missCount < 2 ∧
      misses = s.highway.missCount + 1 ∧ since = some (if late then 512 - n else 512 + n))

/-- R25: the receive samples of a sample period; what stands at the place of one without bit clocks is a free value (assumption 5). -/
def Claim.periodSamples (s : State) (rx : Option RxPeriod) : List Int :=
  match rx with
  | some w => w.toList.map BitVec.toInt
  | none => (List.finRange 32).map (fun n => (Config.lostSample s.freeCount n).toInt)

/-- R25, R28, R29, R32: in IN_SYNC, within a frame period and with no frame boundary still to be taken, a sample period opens at
a good sync, which returns the miss count to 0, and at a first or second miss, which raises it by 1. Its receive samples are
collected, and each bound transmit slot drives the sample of its output at the period's place (0 in a collection period). A
period without bit clocks drives nothing, and what stands at its place is a free value (assumption 5). A misplaced pulse is one
miss and one sample period, whatever other pulse came in the period (assumption 40). The distance in bit clocks from the latest
misplaced pulse to the next expected instant (sinceMisplaced) begins at such a pulse, `n` bit clocks late or early, grows by 512
at a further miss, also by a period without bit clocks (the model's choice, assumption 58), and goes at a good sync.
(The roles in force in a collection period: 21.) -/
def Claim.SamplePeriodOpens : Prop :=
  ∀ (s : State) (c : Instr) (rx : Option RxPeriod) (misses : Nat) (since : Option Nat), s.highway.sync = .inSync →
    s.highway.sampleIx < 64 →
    Claim.noFrameDue s →
    Claim.periodBegins s c rx misses since →
    ∃ t, exec c s = .next t ∧
      t.highway = { s.highway with
        missCount := misses, sinceMisplaced := since, sampleIx := s.highway.sampleIx + 1,
        collected := s.highway.collected ++ [Claim.periodSamples s rx],
        txPins := t.highway.txPins } ∧
      (∀ n : Timeslot, look t.highway.txPins n =
        if rx = none then none
        else match look s.highway.roles.tx n with
          | .unbound => none
          | .send p => some (if s.highway.collecting then 0 else ((look s.bus.sendOut p).getD []).getD s.highway.sampleIx 0)
          | .monitor d =>
            some (if s.highway.collecting then 0 else ((look s.bus.monitorOut d).getD []).getD s.highway.sampleIx 0)) ∧
      t.freeCount = (if rx = none then s.freeCount + 1 else s.freeCount) ∧
      t = { s with highway := t.highway, freeCount := t.freeCount }

/-- R32, R33, R34: the third consecutive miss declares the loss: the input being collected and the output not yet sent are
dropped, every transmit slot is undriven, the slot map and the frame counter stay, SYNC_LOST is raised with the counter's
value, and the local clock's measure of the loss (lossMicros) starts at 0. A misplaced pulse less than 512 bit clocks before
the declaration is the candidate. A third miss by a misplaced pulse leaves that pulse the candidate, and the count 2 where it
comes late and stands 512 bit clocks after the candidate before it (assumption 17). (Frames whose boundary was delivered
before are finished first: assumption 16. SYNC_LOST as a row of its own: 4. A third miss at the instant that would open a
frame period comes before its boundary: 10. Two pulses in a period: 40. How the distance is measured across
periods without bit clocks: 58. Gains whose ramp the loss cuts short: 55.) -/
def Claim.ThirdMissLosesSync : Prop :=
  ∀ (s : State) (c : Instr) (good : Nat), s.highway.sync = .inSync → 2 ≤ s.highway.missCount →
    ((∃ rx, c = .syncMiss rx) ∧ good = goodAfter s.highway.sinceMisplaced ∨
      c = .syncLost ∧ good = goodAfter s.highway.sinceMisplaced ∨
      (∃ late n rx, c = .misplacedSync late n rx ∧ good = goodAfterPulse late n s.highway.sinceMisplaced)) →
    (∀ (late : Bool) (n : Nat),
      let count := goodAfterPulse late n s.highway.sinceMisplaced
      (count = 1 ∨ count = 2) ∧
        (count = 2 ↔ late = true ∧ ∃ a, s.highway.sinceMisplaced = some a ∧ a < 512 ∧ a + n = 512)) ∧
    (goodAfter s.highway.sinceMisplaced = 0 ∨ goodAfter s.highway.sinceMisplaced = 1) ∧
    (goodAfter s.highway.sinceMisplaced = 1 ↔ ∃ a, s.highway.sinceMisplaced = some a ∧ a < 512) ∧
    ∃ t, exec c s = .next t ∧
      t.highway = { s.highway with
        sync := .lost, missCount := 3, goodCount := good, sinceMisplaced := none, sampleIx := 0, collecting := false
        lossMicros := 0, collected := [], txPins := t.highway.txPins } ∧
      (∀ n : Timeslot, look t.highway.txPins n = none) ∧
      (∀ p : Pos, look t.bus.sendOut p = none ∧ look t.bus.earOut p = none) ∧
      (∀ d : Source, look t.bus.monitorOut d = none) ∧
      (∀ p : Pos, t.link p = { s.link p with mic := Vector.replicate 64 none }) ∧
      t.raised = (finishFrames s).raised ++
        [{ src := .highway, stamp := s.highway.frameCounter, event := .syncLost }] ∧
      t = { finishFrames s with highway := t.highway, bus := t.bus, links := t.links, raised := t.raised }

/-- R28, R29, R30, R47, R84: at a frame boundary the counter advances, the roles of the slot map come into force, the input
of the frame that has ended is closed (the samples of each role's slot, and the microphone samples of each link, zeros for
the link frames outside ACTIVE, with the flag that every one of the 64 places has a sample that was entered in ACTIVE and the
link state as it stands), and every block that counts frames has a boundary to take. A good sync after 64 sample periods, a
first or second miss and a misplaced pulse at that instant take the boundary, whose frames are then processed (assumption 16), and
open the first period of the new frame period, whose transmit slots drive the first samples of the new outputs.
(FRAME_BOUNDARY as a row of its own: assumption 4. A microphone place that no frame filled reads 0: 15. A link that does not
hold the position bound hands nothing: 54. The roles in force: 21.) -/
def Claim.FrameBoundaryClosesTheInput : Prop :=
  ∀ s : State, s.highway.sync = .inSync → 64 ≤ s.highway.sampleIx →
    (∃ t, exec .frameBoundary s = .next t ∧
      t.highway = { s.highway with
        frameCounter := s.highway.frameCounter + 1, sampleIx := 0, collecting := false, collected := [],
        roles := s.slotMap } ∧
      t.bus.echoDue = true ∧ t.bus.coachDue = true ∧ t.bus.playerDue = true ∧ t.bus.holdDue = true ∧ t.bus.mixDue = true ∧
      (∀ (p : Pos) (n : Timeslot), look s.highway.roles.rx n = .customer p →
        (∀ m : Timeslot, m.val < n.val → look s.highway.roles.rx m ≠ .customer p) →
        look t.bus.customers p = s.highway.collected.map (fun xs => xs.getD n.val 0)) ∧
      (∀ (d : Source) (n : Timeslot), look s.highway.roles.rx n = .coach d →
        (∀ m : Timeslot, m.val < n.val → look s.highway.roles.rx m ≠ .coach d) →
        look t.bus.voices d = s.highway.collected.map (fun xs => xs.getD n.val 0)) ∧
      (∀ p : Pos, (∀ n : Timeslot, look s.highway.roles.rx n ≠ .customer p) → look t.bus.customers p = []) ∧
      (∀ p : Pos,
        ((s.link p).callBound = true →
          (look t.bus.mics p).samples = (s.link p).mic.toList.map (fun x => x.getD 0) ∧
          ((look t.bus.mics p).whole = true ↔ ∀ i : Fin 64, (look (s.link p).mic i).isSome = true) ∧
          ((look t.bus.mics p).active = true ↔ (s.link p).linkState = .active)) ∧
        ((s.link p).callBound = false → look t.bus.mics p = { samples := [], whole := false, active := false }) ∧
        t.link p = { s.link p with mic := Vector.replicate 64 none }) ∧
      t = { finishFrames s with highway := t.highway, bus := t.bus, links := t.links }) ∧
    (∀ (c : Instr) (rx : Option RxPeriod) (misses : Nat) (since : Option Nat), Claim.periodBegins s c rx misses since →
      ∃ t, exec c s = .next t ∧
        t.highway = { s.highway with
          frameCounter := s.highway.frameCounter + 1, missCount := misses, sinceMisplaced := since, sampleIx := 1,
          collecting := false, collected := [Claim.periodSamples s rx], roles := s.slotMap, txPins := t.highway.txPins } ∧
        (∀ n : Timeslot, look t.highway.txPins n =
          if rx = none then none
          else match look s.slotMap.tx n with
            | .unbound => none
            | .send p => some (((look t.bus.sendOut p).getD []).getD 0 0)
            | .monitor d => some (((look t.bus.monitorOut d).getD []).getD 0 0)) ∧
        t.freeCount = (if rx = none then s.freeCount + 1 else s.freeCount) ∧ Claim.noFrameDue t ∧
        t.slotMap = s.slotMap ∧ t.records = s.records ∧ t.store = s.store ∧ t.flash = s.flash ∧
        ∀ u, exec .frameBoundary { s with highway := { s.highway with missCount := misses, sinceMisplaced := since } } = .next u →
          t = { finishFrames u with highway := t.highway, freeCount := t.freeCount })

/-! ### The station links (chapter 3) -/

/-- Only the link record of `p` may differ, and the events, the notices. -/
def Claim.linkFrame (s t : State) (p : Pos) : Prop :=
  (∀ q, q ≠ p → t.link q = s.link q) ∧ t = { s with links := t.links, notices := t.notices, raised := t.raised }

/-- R37, R38: what a downstream link frame carries, by the link state: nothing in DISABLED, IDLE in DETECT and FAILED, PROBE or
SELECT with zero ear samples while training, KEEP with the ear mix of the sample period in progress in ACTIVE (assumption 15).
A link frame counts at its downstream frame (assumption 27), and in FAILED, in DETECT without presence and in ACTIVE within an
error window that is all it changes of the record, but for the frame sent. -/
def Claim.DownstreamFrameContents : Prop :=
  ∀ (s : State) (p : Pos),
    let r := s.link p
    (r.linkState = .disabled → exec (.downstreamFrame p) s = .next s) ∧
    (r.linkState ≠ .disabled → ∃ t, exec (.downstreamFrame p) s = .next t ∧ Claim.linkFrame s t p ∧
      t.notices = s.notices ∧ (t.link p).linkFrame = r.linkFrame + 1 ∧
      (r.linkState = .failed ∨ r.linkState = .detect ∧ r.present = false ∨
          r.linkState = .active ∧ r.linkFrame + 1 < r.windowStart + 16000 →
        t.link p = { r with linkFrame := r.linkFrame + 1, down := (t.link p).down } ∧ t.raised = s.raised) ∧
      (r.linkState = .detect → r.present = true → (t.link p).down = some (downFrame 0 0 0x5)) ∧
      (r.linkState = .detect → r.present = false → (t.link p).down = some (downFrame 0 0 0x0)) ∧
      (r.linkState = .failed → (t.link p).down = some (downFrame 0 0 0x0)) ∧
      (r.linkState = .negotiate ∨ r.linkState = .recovery → r.phase = some .probe →
        (t.link p).down = some (downFrame 0 0 0x5)) ∧
      (∀ n, r.linkState = .negotiate ∨ r.linkState = .recovery → r.phase = some .select → r.selected = some n →
        n = 1 ∨ n = 2 → (t.link p).down = some (downFrame 0 0 (if n = 2 then 0xA else 0x9))) ∧
      (r.linkState = .active → (s.highway.sync ≠ .inSync ∨ s.highway.collecting = true) →
        (t.link p).down = some (downFrame 0 0 0xC)) ∧
      (∀ e0 e1 : List Int, r.linkState = .active → s.highway.sync = .inSync → s.highway.collecting = false →
        1 ≤ s.highway.sampleIx → look s.bus.earOut p = some (e0, e1) →
        (t.link p).down = some (downFrame (e0.getD (s.highway.sampleIx - 1) 0)
          (if r.lanes = 2 then e1.getD (s.highway.sampleIx - 1) 0 else 0) 0xC)))

/-- R43, R44, R45: an attempt begins at the next link frame of a DETECT link whose headset is present; each link frame counts
toward it; at the 800th it has failed, and the fourth failure leaves the link FAILED. R48: 16 000 link frames after its start a
new error window opens. (The start of an attempt, the 800th frame and the new window as rows of their own: assumption 4. An
attempt and a window count link frames at the downstream frame: 27.) -/
def Claim.AttemptsAndWindows : Prop :=
  ∀ (s : State) (p : Pos),
    let r := s.link p
    (r.linkState = .detect → r.present = true →
      (∃ t, exec (.negotiationStart p) s = .next t ∧ Claim.linkFrame s t p ∧ t.notices = s.notices ∧ t.raised = s.raised ∧
        t.link p = { r with linkState := .negotiate, phase := some .probe, selected := none, attemptFrames := 0,
                            lastOffer := none }) ∧
      (∃ t, exec (.downstreamFrame p) s = .next t ∧ Claim.linkFrame s t p ∧ t.notices = s.notices ∧ t.raised = s.raised ∧
        t.link p = { r with linkState := .negotiate, phase := some .probe, selected := none, attemptFrames := 1,
                            lastOffer := none, linkFrame := r.linkFrame + 1, down := (t.link p).down })) ∧
    (r.linkState = .negotiate ∨ r.linkState = .recovery → r.attemptFrames < 799 →
      ∃ t, exec (.downstreamFrame p) s = .next t ∧ Claim.linkFrame s t p ∧ t.notices = s.notices ∧ t.raised = s.raised ∧
        t.link p = { r with attemptFrames := r.attemptFrames + 1, linkFrame := r.linkFrame + 1,
                            down := (t.link p).down }) ∧
    (∀ c : Instr, r.linkState = .negotiate ∨ r.linkState = .recovery → r.attemptFrames = 799 →
      (c = .downstreamFrame p ∨ c = .attemptTimeout p) →
      ∃ t, exec c s = .next t ∧ Claim.linkFrame s t p ∧ t.notices = s.notices ∧
        t.link p = { r with attemptFrames := 800, retryCount := r.retryCount + 1, phase := none, selected := none,
                            linkState := if r.retryCount = 3 then .failed else .detect, linkFrame := r.linkFrame + 1,
                            down := (t.link p).down } ∧
        Raises s t (.link p) (if r.retryCount = 3 then [.linkFailed p r.lastOffer] else [])) ∧
    (r.linkState = .active → r.windowStart + 16000 ≤ r.linkFrame + 1 →
      (∃ t, exec (.errorWindowRenew p) s = .next t ∧ Claim.linkFrame s t p ∧ t.notices = s.notices ∧ t.raised = s.raised ∧
        t.link p = { r with windowStart := r.windowStart + 16000, errorCount := 0 }) ∧
      (∃ t, exec (.downstreamFrame p) s = .next t ∧ Claim.linkFrame s t p ∧ t.notices = s.notices ∧ t.raised = s.raised ∧
        t.link p = { r with windowStart := r.windowStart + 16000, errorCount := 0, linkFrame := r.linkFrame + 1,
                            down := (t.link p).down }))

/-- R50, R55, R56: what leaving ACTIVE makes of the absence timer, with the notice that a grace of 0 hands at once. -/
def Claim.timerStarts (r : LinkRec) : AbsenceTimer :=
  if r.callBound then (if r.grace = 0 then .expired else .running (r.grace * 1000)) else r.absenceTimer

/-- R55, R56: the notice of an absence timer that expires as it starts. -/
def Claim.expiryAtOnce (r : LinkRec) : List Tidings :=
  if r.callBound = true ∧ r.grace = 0 then [.absenceExpiry r.callSerial] else []

/-- R39, R47, R48, R49: upstream link frames in ACTIVE (with the highway's sync not held or before the first sample period of a
frame period, the mic samples are discarded; else they stand at the place of the sample period in progress: assumption 15). A
failed check holds the last good sample and is counted; the 16th starts a recovery, and so does a good frame with ack 0. (The
fields of a good frame in the order of their bits: assumption 14.) -/
def Claim.UpstreamFramesInActive : Prop :=
  ∀ (s : State) (p : Pos) (b : BitVec 24),
    let r := s.link p
    let entered := fun (x : Int) (m : Table 64 (Option Int)) (i : Fin 64) =>
      if s.highway.sync = .inSync ∧ i.val + 1 = s.highway.sampleIx then look m i = some x else look m i = look r.mic i
    r.linkState = .active →
    (upGood b = false → r.errorCount < 15 →
      ∃ t, exec (.upstreamFrame p b) s = .next t ∧ Claim.linkFrame s t p ∧ t.notices = s.notices ∧ t.raised = s.raised ∧
        t.link p = { r with errorCount := r.errorCount + 1, mic := (t.link p).mic } ∧
        ∀ i, entered r.lastGoodMic (t.link p).mic i) ∧
    (upGood b = false → r.errorCount = 15 →
      ∃ t, exec (.upstreamFrame p b) s = .next t ∧ Claim.linkFrame s t p ∧
        t.link p = { r with
          linkState := .recovery, phase := some .probe, selected := none, attemptFrames := 0, lastOffer := none,
          lanesBefore := r.lanes, autonomous := true, errorCount := 16, absenceTimer := Claim.timerStarts r,
          mic := (t.link p).mic } ∧
        Raises s t (.link p) [.linkRecovering p .errors 16] ∧
        Hands s.notices t.notices (.link p) (fun dst => if dst = .record p then Claim.expiryAtOnce r else [])) ∧
    (upGood b = true → upAck b = true → (upPresent b = true ∨ r.present = false) →
      ∃ t, exec (.upstreamFrame p b) s = .next t ∧ Claim.linkFrame s t p ∧ t.raised = s.raised ∧
        t.link p = { r with lastGoodMic := upMic b, mic := (t.link p).mic } ∧
        (∀ i, entered (upMic b) (t.link p).mic i) ∧
        t.notices = s.notices ++
          (if upMuteEdge b then [{ src := .link p, dst := .record p, tidings := .muteEdge }] else [])) ∧
    (upGood b = true → upAck b = false → (upPresent b = true ∨ r.present = false) →
      ∃ t, exec (.upstreamFrame p b) s = .next t ∧ Claim.linkFrame s t p ∧
        t.link p = { r with
          linkState := .recovery, phase := some .probe, selected := none, attemptFrames := 0, lastOffer := none,
          lanesBefore := r.lanes, autonomous := true, absenceTimer := Claim.timerStarts r, lastGoodMic := upMic b,
          mic := (t.link p).mic } ∧
        Raises s t (.link p) [.linkRecovering p .adapter r.errorCount] ∧
        Hands s.notices t.notices (.link p) (fun dst =>
          if dst = .record p then (if upMuteEdge b then [.muteEdge] else []) ++ Claim.expiryAtOnce r else []))

/-- R39, R43, R44, R46, R54: upstream link frames outside ACTIVE. A failed check has no effect, a mute edge is handed on, a good
frame with ack 0 ends the probe phase, and a good frame with ack 1 in the select phase completes the attempt, with its events in
the order of R46, the lanes notice and, for a bound call, the end of the absence timer and the return notice (R57). (The fields
of a good frame in the order of their bits: assumption 14.) -/
def Claim.UpstreamFramesInTraining : Prop :=
  ∀ (s : State) (p : Pos) (b : BitVec 24),
    let r := s.link p
    let edge := if upMuteEdge b then [{ src := .link p, dst := .record p, tidings := Tidings.muteEdge }] else []
    (r.linkState = .disabled → exec (.upstreamFrame p b) s = .next s) ∧
    (r.linkState ≠ .active → upGood b = false → exec (.upstreamFrame p b) s = .next s) ∧
    (upGood b = true → (upPresent b = true ∨ r.present = false) →
      ((r.linkState = .detect ∨ r.linkState = .failed ∨
          ((r.linkState = .negotiate ∨ r.linkState = .recovery) ∧
            (r.phase = some .probe ∧ upAck b = true ∨ r.phase = some .select ∧ upAck b = false))) →
        exec (.upstreamFrame p b) s = .next { s with notices := s.notices ++ edge }) ∧
      ((r.linkState = .negotiate ∨ r.linkState = .recovery) → r.phase = some .probe → upAck b = false →
        ∃ t, exec (.upstreamFrame p b) s = .next t ∧ Claim.linkFrame s t p ∧ t.raised = s.raised ∧
          t.link p = { r with lastOffer := some (upOffer b), selected := some (min (upOffer b) r.maxLanes),
                              phase := some .select } ∧
          t.notices = s.notices ++ edge) ∧
      (∀ n, (r.linkState = .negotiate ∨ r.linkState = .recovery) → r.phase = some .select → r.selected = some n →
        upAck b = true →
        ∃ t, exec (.upstreamFrame p b) s = .next t ∧ Claim.linkFrame s t p ∧
          t.link p = { r with
            linkState := .active, lanes := n, retryCount := 0, phase := none, selected := none, windowStart := r.linkFrame,
            errorCount := 0, lastGoodMic := 0, retrainRequested := false, autonomous := false,
            absenceTimer := if r.callBound then .stopped else r.absenceTimer } ∧
          Raises s t (.link p)
            (.linkUp p n :: (if r.retrainRequested then [.renegotiated p n] else [])
              ++ (if r.autonomous = true ∧ n ≠ r.lanesBefore then [.autonomousChange p r.lanesBefore n] else [])) ∧
          Hands s.notices t.notices (.link p) (fun dst =>
            if dst = .supp then [.lanes n]
            else if dst = .record p then
              (if upMuteEdge b then [.muteEdge] else []) ++ (if r.callBound then [.linkReturn r.callSerial] else [])
            else [])))

/-- R42: the record of a link that has lost presence. -/
def Claim.presenceGone (r : LinkRec) : LinkRec :=
  { r with
    present := false, senseRun := 0, retryCount := 0, autonomous := false
    linkState := if r.linkState = .disabled then .disabled else .detect
    phase := if r.linkState = .disabled ∨ r.linkState = .detect then r.phase else none
    selected := if r.linkState = .disabled ∨ r.linkState = .detect then r.selected else none
    absenceTimer := if r.linkState = .active then Claim.timerStarts r else r.absenceTimer }

/-- R41, R42: the debounce of the presence sense, and what a loss of presence does, by the sense or by the adapter's report in
any link state that receives frames (ACTIVE, training, DETECT, FAILED): the events in their order, the link state, and the
notices to the echo unit, to the suppressor and, for a timer that expires as it starts (grace 0: assumption 35), to the record.
In ACTIVE the reporting frame has entered its microphone sample before (assumptions 14, 15), and a mute edge it carries is
handed on after (14); ack and offer find the link in DETECT. (PRESENCE_SENSE_CHANGE as a row of its own: assumption 4.) -/
def Claim.PresenceOfTheHeadset : Prop :=
  ∀ (s : State) (p : Pos),
    let r := s.link p
    let lost := fun (t : State) (first : LinkRec) (edge : Bool) =>
      Claim.linkFrame s t p ∧ t.link p = Claim.presenceGone first ∧
      Raises s t (.link p)
        (.presenceChanged p false :: (if r.linkState = .active then [.linkDown p .presenceLost] else [])) ∧
      Hands s.notices t.notices (.link p) (fun dst =>
        if dst = .echo ∨ dst = .supp then [.presenceLost]
        else if dst = .record p then
          (if r.linkState = .active then Claim.expiryAtOnce r else []) ++ (if edge then [.muteEdge] else [])
        else [])
    (exec (.presenceSample p r.present) s = .next (s.modLink p (fun r => { r with senseRun := 0 }))) ∧
    (r.senseRun < 63 →
      exec (.presenceSample p (!r.present)) s = .next (s.modLink p (fun r => { r with senseRun := r.senseRun + 1 }))) ∧
    (∀ c : Instr, r.senseRun = 63 → (c = .presenceSample p (!r.present) ∨ c = .presenceSenseChange p) →
      (r.present = false → ∃ t, exec c s = .next t ∧ Claim.linkFrame s t p ∧ t.notices = s.notices ∧
        t.link p = { r with present := true, senseRun := 0 } ∧ Raises s t (.link p) [.presenceChanged p true]) ∧
      (r.present = true → ∃ t, exec c s = .next t ∧ lost t r false)) ∧
    (∀ b : BitVec 24, upGood b = true → upPresent b = false → r.present = true → r.linkState ≠ .disabled →
      ∃ t, exec (.upstreamFrame p b) s = .next t ∧
        (r.linkState ≠ .active → lost t r (upMuteEdge b)) ∧
        (r.linkState = .active → lost t { r with lastGoodMic := upMic b, mic := (t.link p).mic } (upMuteEdge b) ∧
          ∀ i : Fin 64, look (t.link p).mic i =
            if s.highway.sync = .inSync ∧ i.val + 1 = s.highway.sampleIx then some (upMic b) else look r.mic i))

/-- R55, R56: the link controller takes the notices of a call, and a timer that has run out, at once where it starts with 0
(assumption 35), hands the record its expiry. -/
def Claim.AbsenceTimerOfACall : Prop :=
  ∀ (s : State) (p : Pos) (ns : List Notice),
    let r := s.link p
    (∀ (serial : Byte) (grace : Nat), s.finds (.record p) (.link p) (.callStarted serial grace) ns →
      ∃ t, exec (.linkCallStarted p) s = .next t ∧ Claim.linkFrame s t p ∧ t.raised = s.raised ∧
        t.link p = { r with
          callBound := true, callSerial := serial, grace := grace
          absenceTimer :=
            if r.linkState = .active then r.absenceTimer else if grace = 0 then .expired else .running (grace * 1000) } ∧
        t.notices = ns ++
          (if r.linkState ≠ .active ∧ grace = 0 then
            [{ src := .link p, dst := .record p, tidings := .absenceExpiry serial }] else [])) ∧
    (s.finds (.record p) (.link p) .callEnded ns →
      exec (.linkCallEnded p) s = .next
        ({ s with notices := ns }.modLink p (fun r => { r with callBound := false, absenceTimer := .stopped }))) ∧
    (∀ grace : Nat, s.finds (.record p) (.link p) (.absenceGrace grace) ns →
      exec (.absenceGraceNotice p) s = .next ({ s with notices := ns }.modLink p (fun r => { r with grace := grace }))) ∧
    (r.absenceTimer = .running 0 →
      exec (.absenceTimeout p) s = .next ((s.modLink p (fun r => { r with absenceTimer := .expired })).tell (.link p)
        (.record p) (.absenceExpiry r.callSerial)))

/-- R51, R52, R53: the link requests, refused (RANGE outside positions 0 to 15 or lanes 1 and 2, STATE in a link state that does
not take the request) and accepted. (The widths and the order of the fields of the OK responses: assumptions 12 and 23.) -/
def Obligations.LinkRequests : Prop :=
  ∀ (s : State) (port : PortId) (i : ReqSlot) (p : Pos),
    let r := s.link p
    let refuses := fun (c : Instr) (st : Status) =>
      ∃ t, exec c s = .next t ∧ Answered s t port i st [] ∧ t = { s with portA := t.portA, portB := t.portB }
    let accepts := fun (c : Instr) (after : LinkRec) (events : List Event) (ended : List Tidings) (answer : List Byte) =>
      ∃ t, exec c s = .next t ∧ t.link p = after ∧ (∀ q, q ≠ p → t.link q = s.link q) ∧ Raises s t (.link p) events ∧
        t.notices = s.notices ++ ended.map (fun x => { src := .link p, dst := .record p, tidings := x }) ∧
        Answered s t port i .ok answer ∧
        t = { s with links := t.links, notices := t.notices, raised := t.raised, portA := t.portA, portB := t.portB }
    (∀ n m : Byte, 16 ≤ n.toNat →
      (s.admits port i .setLink [n, m] → refuses (.setLink port i) .range) ∧
      (s.admits port i .linkEnable [n] → refuses (.linkEnable port i) .range) ∧
      (s.admits port i .linkDisable [n] → refuses (.linkDisable port i) .range) ∧
      (s.admits port i .linkRetrain [n] → refuses (.linkRetrain port i) .range)) ∧
    (∀ n : Byte, s.admits port i .setLink [byte p.val, n] →
      (n = 1 ∨ n = 2 → accepts (.setLink port i) { r with maxLanes := n.toNat } [] [] [n, byte r.lanes]) ∧
      (n ≠ 1 → n ≠ 2 → refuses (.setLink port i) .range)) ∧
    (s.admits port i .linkEnable [byte p.val] →
      (r.linkState = .disabled → accepts (.linkEnable port i) { r with linkState := .detect } [] [] [1]) ∧
      (r.linkState ≠ .disabled → refuses (.linkEnable port i) .state)) ∧
    (s.admits port i .linkDisable [byte p.val] →
      (r.linkState = .disabled → refuses (.linkDisable port i) .state) ∧
      (r.linkState ≠ .disabled → accepts (.linkDisable port i)
        { r with linkState := .disabled, retryCount := 0, retrainRequested := false, autonomous := false, phase := none,
                 selected := none, down := none,
                 absenceTimer := if r.linkState = .active then Claim.timerStarts r else r.absenceTimer }
        (if r.linkState = .active then [.linkDown p .disabled] else [])
        (if r.linkState = .active then Claim.expiryAtOnce r else []) [0])) ∧
    (s.admits port i .linkRetrain [byte p.val] →
      (r.linkState = .active → accepts (.linkRetrain port i)
        { r with linkState := .recovery, phase := some .probe, selected := none, attemptFrames := 0, lastOffer := none,
                 retrainRequested := true, lanesBefore := r.lanes, absenceTimer := Claim.timerStarts r }
        [.linkRecovering p .request r.errorCount] (Claim.expiryAtOnce r) [4]) ∧
      (r.linkState = .recovery → accepts (.linkRetrain port i) { r with retrainRequested := true } [] [] [4]) ∧
      (r.linkState = .failed → accepts (.linkRetrain port i)
        { r with retrainRequested := true, retryCount := 0, linkState := .detect } [] [] [1]) ∧
      (r.linkState = .disabled ∨ r.linkState = .detect ∨ r.linkState = .negotiate → refuses (.linkRetrain port i) .state))

/-- R37, R39: the check of a link frame. A frame composed of its fields with the sum of its groups is good and gives the fields
back; a frame that differs from a good one in exactly one 4-bit group fails; and a downstream frame carries its samples, its
control symbol and the sum of its groups. -/
def Obligations.LinkFrameChecks : Prop :=
  (∀ (mic : BitVec 16) (present mute ack two : Bool) (check : BitVec 4),
    let status : BitVec 4 := BitVec.ofBool present ++ BitVec.ofBool mute ++ BitVec.ofBool ack ++ BitVec.ofBool two
    let b : BitVec 24 := mic ++ status ++ check
    upMic b = mic.toInt ∧ upPresent b = present ∧ upMuteEdge b = mute ∧ upAck b = ack ∧
      upOffer b = (if two then 2 else 1) ∧
      (upGood b = true ↔
        (mic.toNat / 4096 + mic.toNat / 256 % 16 + mic.toNat / 16 % 16 + mic.toNat % 16 + status.toNat) % 16
          = check.toNat)) ∧
  (∀ (b : BitVec 24) (k : Fin 6) (d : BitVec 4), upGood b = true → d ≠ b.extractLsb' (4 * k.val) 4 →
    ∀ b' : BitVec 24, b'.extractLsb' (4 * k.val) 4 = d →
      (∀ j : Fin 6, j ≠ k → b'.extractLsb' (4 * j.val) 4 = b.extractLsb' (4 * j.val) 4) → upGood b' = false) ∧
  (∀ (ear0 ear1 : Int) (control : BitVec 4), -32768 ≤ ear0 → ear0 ≤ 32767 → -32768 ≤ ear1 → ear1 ≤ 32767 →
    let f := downFrame ear0 ear1 control
    (f.extractLsb' 24 16).toInt = ear0 ∧ (f.extractLsb' 8 16).toInt = ear1 ∧ f.extractLsb' 4 4 = control ∧
      (f.extractLsb' 0 4).toNat =
        (((List.range 9).map (fun k => (f.extractLsb' (4 * (k + 1)) 4).toNat)).sum) % 16)

/-! ### The signal path (chapters 4 and 5) -/

/-- The cancellers other than `i`, and what no move of blocks touches, are as they were. -/
def Claim.movesBlocksOf (s t : State) (i : CancId) : Prop :=
  (∀ j : CancId, j ≠ i → t.canc j = s.canc j) ∧ t = { s with echo := t.echo, raised := t.raised } ∧
    t.echo = { s.echo with line := t.echo.line, acoustic := t.echo.acoustic, taps := t.echo.taps, free := t.echo.free,
                           waiting := t.echo.waiting }

/-- R73: a canceller asks the pool: it takes the lowest-numbered free blocks up to its shortfall at its long-delay end, their taps
0; one left short joins the wait list, where it does not stand there, and raises TAP_SHORT. -/
def Claim.asksPool (s t : State) (i : CancId) : Prop :=
  let r := s.canc i
  let given := s.echo.free.take (r.requested - r.blocks.length)
  let short := decide (r.blocks.length + given.length < r.requested)
  Claim.movesBlocksOf s t i ∧ t.canc i = { r with blocks := r.blocks ++ given } ∧
  t.echo.free = s.echo.free.drop given.length ∧
  (∀ b, look t.echo.taps b = if b ∈ given then List.replicate 64 0 else look s.echo.taps b) ∧
  t.echo.waiting = (if short = true ∧ i ∉ s.echo.waiting then s.echo.waiting ++ [i] else s.echo.waiting) ∧
  Raises s t .echo (if short then [.tapShort i.pos i.canc r.requested (r.blocks.length + given.length)] else [])

/-- R75: what each waiting canceller is granted of the freed blocks, in wait-list order. -/
def Claim.dealt (s : State) : List CancId → List (Fin 128) → List (CancId × List (Fin 128))
  | [], _ => []
  | j :: ws, fs =>
    let n := (s.canc j).requested - (s.canc j).blocks.length
    (j, fs.take n) :: Claim.dealt s ws (fs.drop n)

/-- R75: blocks are released: in ascending order they go to the cancellers that wait, from the head of the list, their taps 0; each
that is granted any raises TAP_TOPPED_UP and leaves the list if it is short no more; the rest join the free list, which ascends. -/
def Claim.releasesBlocks (s t : State) (bs : List (Fin 128)) : Prop :=
  ∃ sorted : List (Fin 128), sorted.Perm bs ∧ sorted.Pairwise (fun a b => a.val ≤ b.val) ∧
    let deals := Claim.dealt s s.echo.waiting sorted
    let granted := deals.flatMap (fun y => y.2)
    (∀ y ∈ deals, t.canc y.1 = { s.canc y.1 with blocks := (s.canc y.1).blocks ++ y.2 }) ∧
    (∀ j : CancId, j ∉ s.echo.waiting → t.canc j = s.canc j) ∧
    (∀ b, look t.echo.taps b = if b ∈ granted then List.replicate 64 0 else look s.echo.taps b) ∧
    t.echo.waiting = s.echo.waiting.filter (fun j => decide ((t.canc j).blocks.length < (t.canc j).requested)) ∧
    t.echo.free.Perm (s.echo.free ++ sorted.drop granted.length) ∧ t.echo.free.Pairwise (fun a b => a.val ≤ b.val) ∧
    Raises s t .echo ((deals.filter (fun y => decide (y.2 ≠ []))).map (fun y =>
      .tapToppedUp y.1.pos y.1.canc (s.canc y.1).requested ((s.canc y.1).blocks.length + y.2.length))) ∧
    t = { s with echo := t.echo, raised := t.raised } ∧
    t.echo = { s.echo with line := t.echo.line, acoustic := t.echo.acoustic, taps := t.echo.taps, free := t.echo.free,
                           waiting := t.echo.waiting }

/-- A canceller of `s` changed, and off the wait list where it is to leave it. -/
def Claim.setCanceller (s : State) (i : CancId) (leaves : Bool) (f : CancRec → CancRec) : State :=
  let u := s.modCanc i f
  if leaves then { u with echo := { u.echo with waiting := u.echo.waiting.filter (fun j => decide (j ≠ i)) } } else u

/-- R71, R73: a canceller asks the pool for its blocks, unless its mode is OFF. -/
def Claim.asksUnlessOff (s t : State) (i : CancId) : Prop :=
  ((s.canc i).mode = .off → t = s) ∧ ((s.canc i).mode ≠ .off → Claim.asksPool s t i)

/-- R70 to R75, R85, R92, R93: the echo unit and the suppressor take their notices. A call that starts sets the bound flag and
clears the histories and counts of both cancellers, and then the line canceller and after it the acoustic one asks the pool for
its blocks: one left short joins the wait list and raises TAP_SHORT. A call that ends clears the flag, takes both cancellers off
the wait list and releases the blocks of the line canceller and then of the acoustic one: they go to the cancellers that wait,
each granted any raising TAP_TOPPED_UP, and the rest to the free list. -/
def Obligations.SignalNotices : Prop :=
  ∀ (s : State) (p : Pos) (ns : List Notice),
    (∀ (serial : Byte) (grace : Nat), s.finds (.record p) .echo (.callStarted serial grace) ns →
      ∃ t, exec (.echoCallStarted p) s = .next t ∧ t.echo.bound = put s.echo.bound p true ∧
        t.echo.resetMark = s.echo.resetMark ∧
        (∀ k : Canc, t.canc ⟨p, k⟩ = { s.canc ⟨p, k⟩ with
          history := List.replicate (match k with | .line => 1088 | .acoustic => 320) 0
          hangoverCount := 0, divergence := 0, erle := 0, blocks := (t.canc ⟨p, k⟩).blocks } ∧
          (s.canc ⟨p, k⟩).blocks <+: (t.canc ⟨p, k⟩).blocks ∧
          ((s.canc ⟨p, k⟩).mode = .off → (t.canc ⟨p, k⟩).blocks = (s.canc ⟨p, k⟩).blocks)) ∧
        (∀ i : CancId, i.pos ≠ p → t.canc i = s.canc i) ∧
        ((s.canc ⟨p, .line⟩).blocks = [] → (s.canc ⟨p, .acoustic⟩).blocks = [] →
          (s.canc ⟨p, .line⟩).mode ≠ .off → (s.canc ⟨p, .acoustic⟩).mode ≠ .off →
          (s.canc ⟨p, .line⟩).requested + (s.canc ⟨p, .acoustic⟩).requested ≤ s.echo.free.length →
          (t.canc ⟨p, .line⟩).blocks = s.echo.free.take (s.canc ⟨p, .line⟩).requested ∧
          (t.canc ⟨p, .acoustic⟩).blocks =
            (s.echo.free.drop (s.canc ⟨p, .line⟩).requested).take (s.canc ⟨p, .acoustic⟩).requested ∧
          t.echo.free =
            s.echo.free.drop ((s.canc ⟨p, .line⟩).requested + (s.canc ⟨p, .acoustic⟩).requested) ∧
          t.raised = s.raised ∧ t.echo.waiting = s.echo.waiting) ∧
        (let starts := fun (n : Nat) (r : CancRec) =>
          { r with history := List.replicate n 0, hangoverCount := 0, divergence := 0, erle := 0 }
         let began : State :=
          Claim.setCanceller
            (Claim.setCanceller { s with notices := ns, echo := { s.echo with bound := put s.echo.bound p true } } ⟨p, .line⟩
              false (starts 1088))
            ⟨p, .acoustic⟩ false (starts 320)
         ∃ u, Claim.asksUnlessOff began u ⟨p, .line⟩ ∧ Claim.asksUnlessOff u t ⟨p, .acoustic⟩) ∧
        t = { s with echo := t.echo, notices := ns, raised := t.raised }) ∧
    (s.finds (.record p) .echo .callEnded ns →
      ∃ t, exec (.echoCallEnded p) s = .next t ∧ t.echo.bound = put s.echo.bound p false ∧
        (∀ k : Canc, (t.canc ⟨p, k⟩).blocks = [] ∧ (t.canc ⟨p, k⟩).hangoverCount = 0 ∧ (t.canc ⟨p, k⟩).divergence = 0 ∧
          (t.canc ⟨p, k⟩).mode = (s.canc ⟨p, k⟩).mode ∧ (⟨p, k⟩ : CancId) ∉ t.echo.waiting) ∧
        (∀ i : CancId, i.pos ≠ p → t.canc i = { s.canc i with blocks := (t.canc i).blocks } ∧
          (s.canc i).blocks <+: (t.canc i).blocks) ∧
        (s.FiltersSound →
          let left : State :=
            { s with notices := ns, echo := { s.echo with
              bound := put s.echo.bound p false, waiting := s.echo.waiting.filter (fun i => decide (i.pos ≠ p)) } }
          let gives := fun (r : CancRec) => { r with blocks := [] }
          let calm := fun (r : CancRec) => { r with hangoverCount := 0, divergence := 0 }
          ∃ u v, Claim.releasesBlocks (Claim.setCanceller left ⟨p, .line⟩ false gives) u (s.canc ⟨p, .line⟩).blocks ∧
            Claim.releasesBlocks (Claim.setCanceller u ⟨p, .acoustic⟩ false gives) v (s.canc ⟨p, .acoustic⟩).blocks ∧
            t = Claim.setCanceller (Claim.setCanceller v ⟨p, .line⟩ false calm) ⟨p, .acoustic⟩ false calm) ∧
        t = { s with echo := t.echo, notices := ns, raised := t.raised }) ∧
    (s.finds (.link p) .echo .presenceLost ns →
      exec (.echoPresenceLost p) s =
        .next { s with notices := ns, echo := { s.echo with resetMark := put s.echo.resetMark p true } }) ∧
    (∀ (serial : Byte) (grace : Nat), s.finds (.record p) .supp (.callStarted serial grace) ns →
      exec (.suppCallStarted p) s = .next { s with
        notices := ns
        supp := put s.supp p { look s.supp p with
          bound := true, cnRegister := BitVec.ofNat 16 (4096 + p.val), gain := 16384, nlpEngaged := false }
        mix := put s.mix p { MixRec.reset with copies := (look s.mix p).copies, lanes := (look s.mix p).lanes } }) ∧
    (s.finds (.record p) .supp .callEnded ns →
      exec (.suppCallEnded p) s =
        .next { s with notices := ns, supp := put s.supp p { look s.supp p with bound := false } }) ∧
    (s.finds (.link p) .supp .presenceLost ns →
      exec (.suppPresenceLost p) s =
        .next { s with notices := ns, supp := put s.supp p { look s.supp p with floorReset := true } }) ∧
    (∀ n : Nat, s.finds (.link p) .supp (.lanes n) ns →
      exec (.lanesNotice p) s = .next { s with notices := ns, mix := put s.mix p { look s.mix p with lanes := n } }) ∧
    (∀ copies : MixCopies, s.finds (.record p) .supp (.mixState copies) ns →
      exec (.mixStateChange p) s =
        .next { s with notices := ns, mix := put s.mix p { look s.mix p with copies := copies } })

/-- R62: the tail of a canceller, in samples. -/
def Claim.tailOf (r : CancRec) : Nat := if r.mode = .off then 0 else 64 * r.blocks.length

/-- R63: the frame of the desired signal has double-talk against the reference of the tail and the frame. -/
def Claim.doubleTalkIn (r : CancRec) (d : List Int) : Bool :=
  decide (peak (r.history.drop (r.history.length - (Claim.tailOf r + 64))) / 2 ^ r.dtCode ≤ peak d)

/-- R63, R64: the far end is active: the energy of the frame's reference reaches p_act. -/
def Claim.farEndIn (r : CancRec) : Bool := decide (r.pAct ≤ energy (r.history.drop (r.history.length - 64)))

/-- R64: the frame is adapting. -/
def Claim.adaptsIn (r : CancRec) (d : List Int) : Bool :=
  decide (r.mode = .adapt ∧ 0 < Claim.tailOf r ∧ r.hangoverCount = 0) && Claim.farEndIn r && !Claim.doubleTalkIn r d

/-- R65, R66: `e` is the output of a canceller of tail `L` for the desired samples `d`, and `h n` its taps before sample `n`: the
estimate is the rounded sum of the products of taps and reference samples, and an adapting frame moves each tap after each
sample, within its 24 bits. The reference at delay `k` of sample `n` stands `64 - n + k` places from the history's end. -/
def Claim.filters (adapts : Bool) (m L : Nat) (history d e : List Int) (h : Nat → Nat → Int) : Prop :=
  let ref := fun (n k : Nat) => history.getD (history.length - 64 + n - k) 0
  e.length = 64 ∧
  ∀ n, n < 64 →
    let y := sat16 (roundDiv (((List.range L).map (fun k => h n k * ref n k)).sum) 4194304)
    let power := ((List.range L).map (fun k => ref n k * ref n k)).sum
    let q := truncDiv (e.getD n 0 * 2 ^ (30 - m)) (power + 1024 * L)
    e.getD n 0 = sat16 (d.getD n 0 - y) ∧
    ∀ k, k < L → h (n + 1) k =
      if adapts then max (-8388608) (min 8388607 (h n k + roundDiv (q * ref n k) 256)) else h n k

/-- R63 to R70: a canceller of a bound position at the echo frame: `d` is the desired signal and `e` the output. A canceller in OFF
or without a block passes `d` through; the taps start from 0 where a presence-lost notice marked them; the eighth divergent
frame in a row zeroes them. -/
def Claim.CancellerFrame (s t : State) (i : CancId) (d e : List Int) : Prop :=
  let r := s.canc i
  let L := Claim.tailOf r
  let adapts := Claim.adaptsIn r d
  let marked := i.canc = .acoustic ∧ look s.echo.resetMark i.pos = true
  let diverges := adapts = true ∧ 4 * sumSquares d < sumSquares e
  let before := if marked then 0 else r.divergence
  let fits := fun (n : Nat) => 10 ^ n * (sumSquares e + 1) ^ 10 ≤ (sumSquares d + 1) ^ 10
  (L = 0 → e = d) ∧
  (0 < L → ∃ h : Nat → Nat → Int,
    (∀ k, k < L → h 0 k = if marked then 0 else
      ((r.blocks[k / 64]?).map (fun b => (look s.echo.taps b).getD (k % 64) 0)).getD 0) ∧
    Claim.filters adapts r.stepCode L r.history d e h ∧
    ∀ (j : Nat) (b : Fin 128), r.blocks[j]? = some b → (look t.echo.taps b).length = 64 ∧
      ∀ k, k < 64 → (look t.echo.taps b).getD k 0 = if diverges ∧ 8 ≤ before + 1 then 0 else h 64 (64 * j + k)) ∧
  t.canc i = { r with
    hangoverCount := if Claim.doubleTalkIn r d then r.hangover else r.hangoverCount - 1
    divergence := if diverges ∧ before + 1 < 8 then before + 1 else 0
    erle := (t.canc i).erle } ∧
  (adapts = false → (t.canc i).erle = r.erle) ∧
  (adapts = true → (t.canc i).erle ≤ 60 ∧ ((t.canc i).erle = 0 ∨ fits (t.canc i).erle) ∧
    ∀ n, n ≤ 60 → fits n → n ≤ (t.canc i).erle)

/-- R59, R63 to R70, R84: an echo frame touches the cancellers of bound positions only, and the taps of no others but those a
presence-lost notice marked; each bound position's cancellers go as `Claim.CancellerFrame` says, with their outputs handed on, and
a reset is reported, the positions in ascending order and the line canceller first (assumption 43). A microphone place without
a sample reads 0 (assumption 15). A canceller whose frame is not adapting keeps its taps. -/
def Obligations.EchoFrame : Prop :=
  (∀ s : State, s.bus.echoDue = true → ∃ t, exec .echoFrame s = .next t ∧ t.bus.echoDue = false ∧
    (∀ p : Pos, (look t.bus.echoOut p).isSome = look s.echo.bound p) ∧
    (∀ p : Pos, look s.echo.bound p = false →
      t.canc ⟨p, .line⟩ = s.canc ⟨p, .line⟩ ∧
      t.canc ⟨p, .acoustic⟩ = if look s.echo.resetMark p then { s.canc ⟨p, .acoustic⟩ with divergence := 0 }
        else s.canc ⟨p, .acoustic⟩) ∧
    (∀ i : CancId, t.canc i = { s.canc i with
      hangoverCount := (t.canc i).hangoverCount, divergence := (t.canc i).divergence, erle := (t.canc i).erle }) ∧
    (∀ b : Fin 128, (∀ i : CancId, b ∉ (s.canc i).blocks) → look t.echo.taps b = look s.echo.taps b) ∧
    (∀ p : Pos, look t.echo.resetMark p = false) ∧ t.echo.free = s.echo.free ∧ t.echo.waiting = s.echo.waiting ∧
    t.echo.bound = s.echo.bound ∧
    (s.poolSound → s.FiltersSound →
      (∀ p : Pos, look s.echo.bound p = true → ∃ near far : List Int,
        look t.bus.echoOut p = some
          { customer := far, residual := near, farEnd := Claim.farEndIn (s.canc ⟨p, .acoustic⟩)
            doubleTalk := Claim.doubleTalkIn (s.canc ⟨p, .acoustic⟩) (fitTo 64 0 (look s.bus.mics p).samples)
            hangover := (t.canc ⟨p, .acoustic⟩).hangoverCount } ∧
        Claim.CancellerFrame s t ⟨p, .line⟩ (fitTo 64 0 (look s.bus.customers p)) far ∧
        Claim.CancellerFrame s t ⟨p, .acoustic⟩ (fitTo 64 0 (look s.bus.mics p).samples) near) ∧
      ∃ resets : List CancId, Raises s t .echo
          (resets.map (fun i => .cancellerReset i.pos i.canc (s.canc i).blocks.length)) ∧
        resets.Sublist (allPos.flatMap (fun p => [⟨p, .line⟩, ⟨p, .acoustic⟩])) ∧
        (∀ i ∈ resets, look s.echo.bound i.pos = true) ∧
        ∀ (p : Pos) (o : EchoOut), look t.bus.echoOut p = some o → ∀ k : Canc,
          let d := match k with
            | .line => fitTo 64 0 (look s.bus.customers p)
            | .acoustic => fitTo 64 0 (look s.bus.mics p).samples
          let e := match k with
            | .line => o.customer
            | .acoustic => o.residual
          (⟨p, k⟩ ∈ resets ↔ Claim.adaptsIn (s.canc ⟨p, k⟩) d = true ∧ 4 * sumSquares d < sumSquares e ∧
            7 ≤ (if k = .acoustic ∧ look s.echo.resetMark p = true then 0 else (s.canc ⟨p, k⟩).divergence))) ∧
    t = { s with echo := t.echo, raised := t.raised,
                 bus := { s.bus with echoDue := false, echoOut := t.bus.echoOut } }) ∧
  (∀ (taps : Table 128 (List Int)) (r : CancRec) (d : List Int), (∀ b, (look taps b).length = 64) →
    r.adapting d = false → (filterFrame taps r d).1 = taps) ∧
  (∀ (taps : Table 128 (List Int)) (r : CancRec) (d : List Int), r.tail = 0 → filterFrame taps r d = (taps, d))

/-- R86, R87: the floor and the target gain of a frame of energy `E`: the floor is tracked where the far end is not active and the
whole microphone frame came. -/
def Claim.floorAndTarget (r : SuppRec) (whole farEnd : Bool) (E : Nat) : Nat × Nat :=
  let N := if farEnd = true ∨ whole = false then r.noiseFloor
    else if r.noiseFloor = 0 ∨ E < r.noiseFloor then max E 1
    else min E (r.noiseFloor + max 1 (r.noiseFloor / 64))
  (N, if E = 0 then r.gMin else max r.gMin (16384 - 16384 * r.alphaQ * N / (4 * E)))

/-- R86 to R90: the suppressor's frame of a position over the residual `o.residual`: the record after it, and at each sample the
agent voice `v` for monitoring and `w` after NLP. -/
def Claim.SuppressorFrame (r after : SuppRec) (whole : Bool) (o : EchoOut) (v w : Nat → Int) : Prop :=
  let NG := Claim.floorAndTarget r whole o.farEnd (energy o.residual)
  let engaged := r.nlp && o.farEnd && !o.doubleTalk && decide (o.hangover = 0)
  let forms := engaged || r.nlpEngaged
  let A := min 32767 (roundDiv ((isqrt (3 * NG.1) * r.gMin : Nat) : Int) 16384)
  let cn := fun (n : Nat) => roundDiv ((Nat.repeat cnStep (n + 1) r.cnRegister).toInt * A) 32768
  after = { r with
    noiseFloor := NG.1, gain := NG.2, nlpEngaged := engaged,
    cnRegister := if forms then Nat.repeat cnStep 64 r.cnRegister else r.cnRegister } ∧
  ∀ n, n < 64 →
    v n = sat16 (roundDiv (o.residual.getD n 0 * ramp r.gain NG.2 n) 16384) ∧
    w n = match r.nlpEngaged, engaged with
      | false, false => v n
      | true, true => cn n
      | false, true => sat16 (roundDiv (v n * ramp 16384 0 n + cn n * ramp 0 16384 n) 16384)
      | true, false => sat16 (roundDiv (v n * ramp 0 16384 n + cn n * ramp 16384 0 n) 16384)

/-- R88, R90: one step of the comfort-noise register, the integer square root, and a ramp of a frame, which ends at its target. -/
def Claim.SuppressorArithmetic : Prop :=
  (∀ r : BitVec 16, (cnStep r).getLsbD 0 = (r.getLsbD 15 ^^ r.getLsbD 13 ^^ r.getLsbD 12 ^^ r.getLsbD 10) ∧
    ∀ i, i < 15 → (cnStep r).getLsbD (i + 1) = r.getLsbD i) ∧
  (∀ n, n < 3221225473 → isqrt n * isqrt n ≤ n ∧ n < (isqrt n + 1) * (isqrt n + 1)) ∧
  (∀ a b : Int, ramp a b 63 = b ∧ ∀ n, ramp a b n = a + ((b - a) * (n + 1)).tdiv 64)

/-- R93 to R96: the send mix of a position, `w` being the agent voice: each term's sample under a gain that ramps from the last
frame's to its target. A music term that ramps out carries its player's frame while that player serves some position, and else
zeros (assumptions 8 and 44); the coach voice and the announcement have one gain whatever source they come from (53). -/
def Claim.SendMix (bus : FrameBus) (p : Pos) (m after : MixRec) (w : Nat → Int) (send : List Int) : Prop :=
  let st := m.copies.callState
  let co := coachOf bus p
  let announcing := if st = .held then (servedBy bus p .announce).filter PlayerOut.playing else none
  let music := fun (k : PlayerNo) =>
    if subscribedTo bus p k = true ∧ (st = .preconnect ∨ st = .held ∧ announcing = none) then
      ((musicFrame bus k).map PlayerOut.level).getD 0 else 0
  let served := fun (o : Option PlayerOut) (n : Nat) => (o.map (fun x => x.samples.getD n 0)).getD 0
  after.sendAgent = (if st = .talk ∧ m.copies.mute = false then m.copies.sendLevel else 0) ∧
  after.sendCoach = ((co.filter (fun x => decide (st = .talk ∧ x.mode = .barge))).map CoachOut.level).getD 0 ∧
  after.sendAnnounce = (announcing.map PlayerOut.level).getD 0 ∧
  (∀ k, look after.sendMusic k = music k) ∧
  send.length = 64 ∧
  ∀ n, n < 64 → send.getD n 0 = sat16 (roundDiv
    (w n * ramp m.sendAgent after.sendAgent n
      + (co.map (fun x => x.voice.getD n 0)).getD 0 * ramp m.sendCoach after.sendCoach n
      + served (servedBy bus p .announce) n * ramp m.sendAnnounce after.sendAnnounce n
      + (allPlayers.map (fun k =>
          (if allPlayers.any (subscribedTo bus p) then served (musicFrame bus k) n else 0)
            * ramp ((look m.sendMusic k : Nat) : Int) ((look after.sendMusic k : Nat) : Int) n)).sum) 16384)

/-- R93, R97, R98, R99: the ear mix of a position, `customer` being the line canceller's output: the customer's term is
ducked in the ear that carries the whispers, and the coach voice stands there, or in both ears in BARGE; while its term ramps
out it stays where it stood (assumption 9). A whisper term is included while its player serves the position, PRIMING too (the
model's reading, assumption 50), and the coach voice has one gain whatever source it comes from (53). -/
def Claim.EarMix (bus : FrameBus) (p : Pos) (m after : MixRec) (customer : List Int) (ears : List Int × List Int) : Prop :=
  let st := m.copies.callState
  let connect := servedBy bus p .connect
  let recorded := servedBy bus p .recorded
  let co := (coachOf bus p).filter (fun x => decide (x.mode ≠ .monitor ∧ st ≠ .idle))
  let barge := co.any (fun x => decide (x.mode = .barge ∧ st = .talk))
  let active := connect.any PlayerOut.playing || recorded.any PlayerOut.playing || (!barge && co.any CoachOut.active)
  let served := fun (o : Option PlayerOut) (n : Nat) => (o.map (fun x => x.samples.getD n 0)).getD 0
  let voice := fun (n : Nat) => ((coachOf bus p).map (fun x => x.voice.getD n 0)).getD 0 * ramp m.earCoach after.earCoach n
  let near := fun (n : Nat) => sat16 (roundDiv
    (customer.getD n 0 * roundDiv (ramp m.earCustomer after.earCustomer n * ramp m.duck after.duck n) 16384 + voice n
      + served connect n * ramp m.earConnect after.earConnect n
      + served recorded n * ramp m.earRecorded after.earRecorded n) 16384)
  let far := fun (n : Nat) => sat16 (roundDiv
    (customer.getD n 0 * ramp m.earCustomer after.earCustomer n + (if after.coachPlace = .bothEars then voice n else 0))
    16384)
  let nearFirst := decide (m.lanes ≠ 2 ∨ m.copies.whisperEar = .left)
  after.earCustomer = (if st = .talk then m.copies.earLevel else 0) ∧
  after.earConnect = (if st = .preconnect then (connect.map PlayerOut.level).getD 0 else 0) ∧
  after.earRecorded = (if st = .talk ∨ st = .held then (recorded.map PlayerOut.level).getD 0 else 0) ∧
  after.earCoach = (co.map CoachOut.level).getD 0 ∧
  after.duck = (if active then m.copies.duckDepth else 16384) ∧
  after.coachPlace = (if co = none then m.coachPlace else if barge then .bothEars else .whisperEar) ∧
  ears.1.length = 64 ∧ ears.2.length = 64 ∧
  ∀ n, n < 64 →
    ears.1.getD n 0 = (if nearFirst then near n else far n) ∧
    ears.2.getD n 0 = (if m.lanes ≠ 2 then 0 else if nearFirst then far n else near n)

/-- R60, R61, R84, R92, R100, R101: the mixer's frame of a bound position: the suppressor, the send and ear mixes and the monitor
mix over what its neighbours handed it (zeros where the echo unit handed nothing), and the reference frames appended to the
histories where the echo unit holds the position bound. (The monitor mix follows the coach frames handed: assumption 56.) -/
def Claim.PositionMix (s t : State) (p : Pos) : Prop :=
  let o := (look s.bus.echoOut p).getD
    { customer := List.replicate 64 0, residual := List.replicate 64 0, farEnd := false, doubleTalk := false, hangover := 0 }
  let r := look s.supp p
  let m := look s.mix p
  let append := fun (size : Nat) (h xs : List Int) => (h ++ xs).drop ((h ++ xs).length - size)
  ∃ (send left right : List Int) (v w : Nat → Int),
    look t.bus.sendOut p = some send ∧ look t.bus.earOut p = some (left, right) ∧
    (look t.mix p).copies = m.copies ∧ (look t.mix p).lanes = m.lanes ∧
    Claim.SuppressorFrame
      { r with noiseFloor := if r.floorReset then 0 else r.noiseFloor, floorReset := false } (look t.supp p)
      (look s.bus.mics p).whole o v w ∧
    Claim.SendMix s.bus p m (look t.mix p) w send ∧ Claim.EarMix s.bus p m (look t.mix p) o.customer (left, right) ∧
    (∀ c : Source, (∃ x, look s.bus.coachOut c = some x ∧ x.position = p) →
      ∃ xs, look t.bus.monitorOut c = some xs ∧ xs.length = 64 ∧
        ∀ n, n < 64 → xs.getD n 0 = sat16 (o.customer.getD n 0 + v n)) ∧
    (look s.echo.bound p = false →
      t.canc ⟨p, .line⟩ = s.canc ⟨p, .line⟩ ∧ t.canc ⟨p, .acoustic⟩ = s.canc ⟨p, .acoustic⟩) ∧
    (look s.echo.bound p = true →
      t.canc ⟨p, .line⟩ = { s.canc ⟨p, .line⟩ with history := append 1088 (s.canc ⟨p, .line⟩).history send } ∧
      ∃ ref : List Int, ref.length = 64 ∧
        (∀ n, n < 64 → ref.getD n 0 =
          if (look s.bus.mics p).active = false then 0
          else if m.lanes = 2 then (left.getD n 0 + right.getD n 0) / 2 else left.getD n 0) ∧
        t.canc ⟨p, .acoustic⟩ =
          { s.canc ⟨p, .acoustic⟩ with history := append 320 (s.canc ⟨p, .acoustic⟩).history ref })

/-- R59, R60, R61, R84, R86 to R90, R92 to R101: once the echo unit, the coach unit and the player unit have taken the
boundary, the mixer's frame gives each bound position a send mix and an ear mix of 64 samples in the 16-bit range, and no
other position any; each bound position's frame goes as `Claim.PositionMix` says; a monitor carries zeros where its source is
attached to no position or to one that is not bound. (The music term of a position with no player to hand it a frame is of
zeros, an old player's as it ramps out too: assumptions 8 and 44. A coach voice that ramps out stays in its ear: 9; one
attached in place of another takes on its gain: 53. A whisper term counts while its player is PRIMING: 50.) -/
def Obligations.MixFrame : Prop :=
  Claim.SuppressorArithmetic ∧
  ∀ s : State, s.bus.mixDue = true → s.bus.echoDue = false → s.bus.coachDue = false → s.bus.playerDue = false →
    ∃ t, exec .mixFrame s = .next t ∧ t.bus.mixDue = false ∧
      (∀ p : Pos, (look s.supp p).bound = false →
        look t.bus.sendOut p = none ∧ look t.bus.earOut p = none ∧ look t.mix p = look s.mix p ∧
        look t.supp p = { look s.supp p with
          noiseFloor := if (look s.supp p).floorReset then 0 else (look s.supp p).noiseFloor, floorReset := false } ∧
        t.canc ⟨p, .line⟩ = s.canc ⟨p, .line⟩ ∧ t.canc ⟨p, .acoustic⟩ = s.canc ⟨p, .acoustic⟩) ∧
      (∀ p : Pos, (look s.supp p).bound = true →
        (∃ xs, look t.bus.sendOut p = some xs ∧ xs.length = 64 ∧ ∀ x ∈ xs, -32768 ≤ x ∧ x ≤ 32767) ∧
        (∃ left right, look t.bus.earOut p = some (left, right) ∧ left.length = 64 ∧ right.length = 64 ∧
          (∀ x ∈ left ++ right, -32768 ≤ x ∧ x ≤ 32767)) ∧
        (look t.mix p).copies = (look s.mix p).copies ∧ (look t.mix p).lanes = (look s.mix p).lanes ∧
        (look t.mix p).sendAgent =
          (if (look s.mix p).copies.callState = .talk ∧ (look s.mix p).copies.mute = false
           then (look s.mix p).copies.sendLevel else 0) ∧
        (look t.mix p).earCustomer =
          (if (look s.mix p).copies.callState = .talk then (look s.mix p).copies.earLevel else 0) ∧
        ((look t.mix p).duck = (look s.mix p).copies.duckDepth ∨ (look t.mix p).duck = 16384) ∧
        (s.framesSound → Claim.PositionMix s t p)) ∧
      (∀ d : Source, (∀ x, look s.bus.coachOut d = some x → (look s.supp x.position).bound = false) →
        look t.bus.monitorOut d = some (List.replicate 64 0)) ∧
      t.echo = { s.echo with line := t.echo.line, acoustic := t.echo.acoustic } ∧
      t = { s with supp := t.supp, mix := t.mix, echo := t.echo,
                   bus := { s.bus with mixDue := false, sendOut := t.bus.sendOut, earOut := t.bus.earOut,
                                       monitorOut := t.bus.monitorOut } }

/-- R67: a mode written on a bound position. -/
def Claim.modeWritten (s t : State) (i : CancId) : Option CancMode → Prop
  | none => t = s
  | some m =>
    let r := s.canc i
    (m = r.mode → t = s) ∧
    (m ≠ r.mode → m = .off →
      Claim.releasesBlocks (Claim.setCanceller s i true (fun r => { r with mode := .off, divergence := 0, blocks := [] })) t
        r.blocks) ∧
    (m ≠ r.mode → r.mode = .off → Claim.asksPool (Claim.setCanceller s i false (fun r => { r with mode := m })) t i) ∧
    (m ≠ r.mode → m ≠ .off → r.mode ≠ .off → t = Claim.setCanceller s i false (fun r => { r with mode := m }))

/-- R79: a tail written on a bound position. -/
def Claim.tailWritten (s t : State) (i : CancId) : Option Nat → Prop
  | none => t = s
  | some n =>
    let r := s.canc i
    let write := fun (r : CancRec) => { r with requested := n }
    (r.mode = .off ∨ (r.blocks.length < n ∧ i ∈ s.echo.waiting) → t = Claim.setCanceller s i false write) ∧
    (r.mode ≠ .off → r.blocks.length < n → i ∉ s.echo.waiting → Claim.asksPool (Claim.setCanceller s i false write) t i) ∧
    (r.mode ≠ .off → r.blocks.length = n → t = Claim.setCanceller s i true write) ∧
    (r.mode ≠ .off → n < r.blocks.length →
      Claim.releasesBlocks (Claim.setCanceller s i true (fun r => { r with requested := n, blocks := r.blocks.take n })) t
        (r.blocks.drop n))

/-- R76, R91: the fields of SET_ECHO and of SET_SUPPRESSOR, as their payloads carry them (R181), and those of SET_ECHO held
against their ranges. -/
def Claim.SignalSettingFields : Prop :=
  let one := fun (b : Byte) => [b]
  let word := fun (x : BitVec 16) => out16 x.toNat
  (∀ (position canceller : Byte) (mode requested stepCode dtCode hangover : Option Byte) (pAct : Option (BitVec 16)),
    parseSetEcho (position :: canceller :: (outOpt one mode ++ outOpt one requested ++ outOpt one stepCode
        ++ outOpt one dtCode ++ outOpt one hangover ++ outOpt word pAct)) =
      some { position := position.toNat, canceller := canceller.toNat, mode := mode.map BitVec.toNat
             requested := requested.map BitVec.toNat, stepCode := stepCode.map BitVec.toNat
             dtCode := dtCode.map BitVec.toNat, hangover := hangover.map BitVec.toNat, pAct := pAct.map BitVec.toNat }) ∧
  (∀ (a : SetEchoArgs) (k : Canc) (mode : Option CancMode), a.canceller = (if k = .line then 0 else 1) →
    a.mode = mode.map (fun m => match m with | .off => 0 | .frozen => 1 | .adapt => 2) →
    (∀ n ∈ a.requested, 1 ≤ n ∧ n ≤ if k = .line then 16 else 4) → (∀ n ∈ a.stepCode, n ≤ 6) → (∀ n ∈ a.dtCode, n ≤ 4) →
    (∀ n ∈ a.hangover, n ≤ 15) → (∀ n ∈ a.pAct, n ≤ 65535) →
    a.checked = some { canc := k, mode := mode, requested := a.requested, stepCode := a.stepCode, dtCode := a.dtCode
                       hangover := a.hangover, pAct := a.pAct }) ∧
  (∀ (position : Byte) (alphaQ nlp : Option Byte) (gMin : Option (BitVec 16)),
    parseSetSuppressor (position :: (outOpt one alphaQ ++ outOpt word gMin ++ outOpt one nlp)) =
      some { position := position.toNat, alphaQ := alphaQ.map BitVec.toNat, gMin := gMin.map BitVec.toNat
             nlp := nlp.map BitVec.toNat })

/-- R80: the response of an accepted SET_ECHO: the position and the canceller, the six settings as they stand, the blocks granted,
whether the canceller is on the wait list, and the free blocks. -/
def Claim.echoAnswer (s : State) (i : CancId) : List Byte :=
  let r := s.canc i
  [byte i.pos.val, match i.canc with | .line => 0 | .acoustic => 1,
    match r.mode with | .off => 0 | .frozen => 1 | .adapt => 2, byte r.requested, byte r.stepCode, byte r.dtCode,
    byte r.hangover] ++ out16 r.pAct
    ++ [byte r.blocks.length, if i ∈ s.echo.waiting then 1 else 0, byte s.echo.free.length]

/-- R76 to R80, R91: SET_ECHO on a position that is not bound writes the fields it carries and asks the pool for nothing; on a bound
one it writes its parameters, then the mode (R67) and then the tail (R79), with the blocks that these ask for (R73) or release
(R75); it is answered as R80 gives; a position, a canceller or a field out of its range refuses it RANGE. SET_SUPPRESSOR likewise writes what it carries, and
is refused RANGE for a position or a field out of its range, an nlp that is neither on nor off among them (assumption 11). (The
widths and the order of the fields of the OK responses: assumptions 12 and 23.) -/
def Obligations.SignalSettings : Prop :=
  Claim.SignalSettingFields ∧
  ∀ (s : State) (port : PortId) (i : ReqSlot) (payload : List Byte),
    (∀ a : SetEchoArgs, s.admits port i .setEcho payload → parseSetEcho payload = some a → 16 ≤ a.position →
      Claim.refuses s (.setEcho port i) port i .range) ∧
    (∀ a : SetSuppressorArgs, s.admits port i .setSuppressor payload → parseSetSuppressor payload = some a →
      16 ≤ a.position → Claim.refuses s (.setSuppressor port i) port i .range) ∧
    (∀ (a : SetEchoArgs) (p : Pos), s.admits port i .setEcho payload → parseSetEcho payload = some a →
      a.position = p.val →
      (2 ≤ a.canceller ∨ (∃ n, a.mode = some n ∧ 3 ≤ n) ∨ (∃ n, a.stepCode = some n ∧ 6 < n) ∨
        (∃ n, a.dtCode = some n ∧ 4 < n) ∨ (∃ n, a.hangover = some n ∧ 15 < n) ∨
        (∃ n, a.requested = some n ∧ (n < 1 ∨ (if a.canceller = 0 then 16 else 4) < n)) → a.checked = none) ∧
      (∀ v : EchoSettings, a.checked = some v → look s.echo.bound p = true → s.FiltersSound →
        ∃ u w t, Claim.modeWritten
            (Claim.setCanceller s ⟨p, v.canc⟩ false (fun r => { r with
              stepCode := v.stepCode.getD r.stepCode, dtCode := v.dtCode.getD r.dtCode, pAct := v.pAct.getD r.pAct
              hangover := v.hangover.getD r.hangover
              hangoverCount :=
                if v.hangover.isSome then min r.hangoverCount (v.hangover.getD 0) else r.hangoverCount }))
            u ⟨p, v.canc⟩ v.mode ∧
          Claim.tailWritten u w ⟨p, v.canc⟩ v.requested ∧
          exec (.setEcho port i) s = .next t ∧ Answered w t port i .ok (Claim.echoAnswer w ⟨p, v.canc⟩) ∧
          t = { w with portA := t.portA, portB := t.portB }) ∧
      (a.checked = none → ∃ t, exec (.setEcho port i) s = .next t ∧ Answered s t port i .range [] ∧
        t = { s with portA := t.portA, portB := t.portB }) ∧
      (∀ v : EchoSettings, a.checked = some v → (look s.echo.bound p = false ∨ v.mode = none ∧ v.requested = none) →
        ∃ t, exec (.setEcho port i) s = .next t ∧
          t.canc ⟨p, v.canc⟩ = { s.canc ⟨p, v.canc⟩ with
            mode := v.mode.getD (s.canc ⟨p, v.canc⟩).mode
            requested := v.requested.getD (s.canc ⟨p, v.canc⟩).requested
            stepCode := v.stepCode.getD (s.canc ⟨p, v.canc⟩).stepCode
            dtCode := v.dtCode.getD (s.canc ⟨p, v.canc⟩).dtCode
            hangover := v.hangover.getD (s.canc ⟨p, v.canc⟩).hangover
            pAct := v.pAct.getD (s.canc ⟨p, v.canc⟩).pAct
            hangoverCount :=
              if look s.echo.bound p = true ∧ v.hangover.isSome = true then
                min (s.canc ⟨p, v.canc⟩).hangoverCount (v.hangover.getD 0)
              else (s.canc ⟨p, v.canc⟩).hangoverCount } ∧
          (∀ j : CancId, j ≠ ⟨p, v.canc⟩ → t.canc j = s.canc j) ∧
          t.echo = { s.echo with line := t.echo.line, acoustic := t.echo.acoustic } ∧
          Answered s t port i .ok (Claim.echoAnswer t ⟨p, v.canc⟩) ∧
          t = { s with echo := t.echo, portA := t.portA, portB := t.portB })) ∧
    (∀ (a : SetSuppressorArgs) (p : Pos), s.admits port i .setSuppressor payload → parseSetSuppressor payload = some a →
      a.position = p.val →
      ((∃ n, a.alphaQ = some n ∧ (n < 4 ∨ 16 < n)) ∨ (∃ n, a.gMin = some n ∧ 16384 < n) ∨
          (∃ n, a.nlp = some n ∧ 2 ≤ n) →
        Claim.refuses s (.setSuppressor port i) port i .range) ∧
      (∀ nlp : Option Bool, (∀ n, a.alphaQ = some n → 4 ≤ n ∧ n ≤ 16) → (∀ n, a.gMin = some n → n ≤ 16384) →
        a.nlp = nlp.map (fun b => if b then 1 else 0) →
        let r := look s.supp p
        let after : SuppRec :=
          { r with alphaQ := a.alphaQ.getD r.alphaQ, gMin := a.gMin.getD r.gMin, nlp := nlp.getD r.nlp }
        ∃ t, exec (.setSuppressor port i) s = .next t ∧ look t.supp p = after ∧
          (∀ q, q ≠ p → look t.supp q = look s.supp q) ∧
          Answered s t port i .ok
            (out8 after.alphaQ ++ out16 after.gMin ++ [if after.nlp then 1 else 0] ++ out32 after.noiseFloor
              ++ out16 after.gain ++ [if after.nlpEngaged then 1 else 0]) ∧
          t = { s with supp := t.supp, portA := t.portA, portB := t.portB }))

/-! ### The prompt store (chapter 9) -/

/-- R161, R177, R179: the state `t` after the store has entered FAULT in `s`: the scan in progress is discarded, the job
queue and the erase list are emptied, and the load session ends. Every read that waits is answered STORE_FAULT, and the
refusals that wait behind it with their own statuses (assumption 47), each port's in the order it sent them. A marker job that
waits for a place in the queue is dropped (assumption 57). -/
def Claim.faultEntered (s t : State) (cause : FaultCause) : Prop :=
  t.store = { s.store with
    state := .fault, cause := some cause, session := none, eraseList := [], owedMarker := none, scan := .reset } ∧
  t.arbiter = { s.arbiter with jobs := [], reads := [], recovering := none } ∧
  t.notices = s.notices ++ [{ src := .store, dst := .player, tidings := .storeFault }] ∧
  Raises s t .store (.flashTimeout cause ::
    (s.store.session.map (fun x => Event.loadFailed x.id .storeFault x.cursor none)).toList) ∧
  (s.DeferredSound → ∀ port : PortId, (∀ i start count, s.arbiter.current ≠ some (.read (.port port i start count))) →
    (t.port port).answered = (s.port port).answered ++ (s.port port).reads.map (fun r => r.1) ∧ (t.port port).reads = [] ∧
    ∀ (i : ReqSlot) (refused : Option Status) (tag code : Byte) (payload : List Byte) (carried : Bool),
      (i, refused) ∈ (s.port port).reads → look (s.port port).slots i = .request tag code payload carried →
      look (t.port port).slots i =
        .response { tag := tag, code := code, status := refused.getD .storeFault, payload := [] }) ∧
  t = { s with store := t.store, arbiter := t.arbiter, notices := t.notices, raised := t.raised, portA := t.portA,
               portB := t.portB }

/-- R157, R161, R177, R179: the store leaves STARTING by the flash's first ready report, which begins the scan at sector 0,
or for FAULT at 1 s; an operation that timed out is answered by a ready report, or leads to FAULT after 1 s. (The microsecond
at which each 1 s is up: assumption 35.) The entry to FAULT ends the load (LOAD_FAILED) and answers each waiting read
STORE_FAULT, and the refusals that wait behind it with their own statuses (assumption 47), and drops a marker job that waits for
a place in the queue (57). -/
def Obligations.StoreStartsOrFaults : Prop :=
  ∀ s : State,
    (s.store.state = .starting → s.store.startMicros < 1000000 →
      exec .statusReady s = .next { s with
        store := { s.store with state := .scanning, scan := .reset }
        arbiter := { s.arbiter with reads := s.arbiter.reads ++ [.scanHeader 0] } }) ∧
    (s.store.state = .starting → 1000000 ≤ s.store.startMicros →
      ∃ t, exec .startTimeout s = .next t ∧ Claim.faultEntered s t .start) ∧
    (∀ n, s.arbiter.recovering = some n → 1000000 ≤ n →
      ∃ t, exec .stuckTimeout s = .next t ∧ Claim.faultEntered s t .stuck) ∧
    (∀ n, s.arbiter.recovering = some n → n ≤ 1000000 →
      exec .flashReadyAfterTimeout s = .next { s with arbiter := { s.arbiter with recovering := none } })

/-- The sectors from `first` on, `count` of them, are in state `x` in `t`, and every other sector is as in `s`. -/
def Claim.sectorsBecome (s t : State) (first count : Nat) (x : SectorState) : Prop :=
  ∀ n : Fin 4096, look t.store.sectors n = if first ≤ n.val ∧ n.val < first + count then x else look s.store.sectors n

/-- R159, R162, R163: the read of the scan has been delivered and the flash port is free: a suspended erase for which nothing waits
resumes, and the arbiter begins what waits, before the scan asks for its next read (assumption 38). -/
def Claim.scanReadEnded (s b : State) : Prop :=
  exec .arbiterStart { s with arbiter := Claim.operationEnded s.arbiter } = .next b

/-- R158, R160: from `b` on, the scan reads the header of sector `next`, with the counts and entries of `after`; past sector 4095
the store is READY, with the catalogue found, and STORE_READY is raised. -/
def Claim.scanGoesOn (b t : State) (next : Nat) (after : Scan) : Prop :=
  (next < 4096 → t.store.scan = { after with next := next } ∧ t.store.state = b.store.state ∧
    t.store.catalogue = b.store.catalogue ∧ t.arbiter.reads = b.arbiter.reads ++ [.scanHeader next] ∧ t.raised = b.raised) ∧
  (4096 ≤ next → t.store.scan = .reset ∧ t.store.state = .ready ∧ t.store.catalogue = after.held ∧
    t.arbiter.reads = b.arbiter.reads ∧
    Raises b t .store [.storeReady after.valid after.torn after.retired after.invalid
      (t.store.sectors.toList.countP (fun x => decide (x = .erasing)))]) ∧
  t = { b with store := t.store, arbiter := t.arbiter, raised := t.raised }

/-- R175, R177: no marker job of a failed load and no commit step waits for a place in the job queue. -/
def Claim.noneWaitsForPlace (s : State) : Prop :=
  s.store.owedMarker = none ∧ ∀ x : Session, s.store.session = some x → x.nextStep = none ∨ x.headerPending = true

/-- R165: after `jobs`, with no ERASE job queued or in progress and room in the queue, the next sector of the head run is an ERASE
job at the tail; else nothing is. -/
def Claim.eraseListFeeds (jobs : List Job) (t : State) : Prop :=
  let next := fun (n : Nat) => ∃ r rest more, t.store.eraseList = r :: rest ∧ r.todo = n :: more
  let waits := t.arbiter.erase ≠ none ∨ (∃ m, Job.erase m ∈ jobs) ∨ 16 ≤ jobs.length
  (∀ n, next n → ¬waits → t.arbiter.jobs = jobs ++ [.erase n]) ∧ ((∀ n, ¬next n) ∨ waits → t.arbiter.jobs = jobs)

/-- R165, R175, R177: the erase list's turn at the queue `jobs`, after what waits in `s` for a place has taken it. -/
def Claim.eraseListTakesItsTurn (s : State) (jobs : List Job) (t : State) : Prop :=
  ∃ before, jobs <+: before ∧
    (Claim.noneWaitsForPlace s →
      before = jobs ∧ t.store.session = s.store.session ∧ t.store.owedMarker = s.store.owedMarker) ∧
    Claim.eraseListFeeds before t

/-- R158, R159, R165: the scan has found a run of `count` sectors from `n` on to be erased: it joins the erase list, from its
highest sector down (assumption 19), and the scan goes on after it. -/
def Claim.scanFoundRun (s t : State) (n count : Nat) (id : Option Nat) (after : Scan) : Prop :=
  ∃ b, Claim.scanReadEnded s b ∧ Claim.scanGoesOn b t (n + count) after ∧ Claim.sectorsBecome s t n count .erasing ∧
    t.store.eraseList = s.store.eraseList ++
      [{ todo := ((List.range count).map (fun k => n + k)).reverse, erased := [], bad := 0, id := id, mark := none }] ∧
    Claim.eraseListTakesItsTurn s b.arbiter.jobs t ∧
    t.arbiter = { b.arbiter with jobs := t.arbiter.jobs, reads := t.arbiter.reads } ∧
    t.store = { b.store with
      sectors := t.store.sectors, eraseList := t.store.eraseList, scan := t.store.scan, state := t.store.state
      catalogue := t.store.catalogue, session := t.store.session, owedMarker := t.store.owedMarker }

/-- R158, R159: the scan has read the header of sector `n`: whole sectors for an unprogrammed marker, the entry of a consistent
VALID header (the first of its id), the erase of a torn load, of an interrupted retirement and of a second prompt of one id, and
the erase of the one sector for every other marker and for a header that is not consistent, one with the id of a prompt already
found too (the model's reading, assumption 29). -/
def Claim.scanReadsHeader (s : State) (n : Nat) : Prop :=
  let h := readHeader s.flash (n * 4096)
  let fits := fun count => 1 ≤ h.id ∧ 1 ≤ h.reserved ∧ h.reserved ≤ 1024 ∧ n + count ≤ 4096
  let whole := fits h.final ∧ 1 ≤ h.final ∧ h.final ≤ h.reserved ∧ h.length + 64 ≤ h.final * 4096 ∧ h.labelLength ≤ 32
  let kept := if 1 ≤ h.final ∧ h.final ≤ h.reserved then h.final else h.reserved
  let c := s.store.scan
  (h.marker = 0xFF → ∃ b t, exec .scanRead s = .next t ∧ Claim.scanReadEnded s b ∧
    t = { b with arbiter := { b.arbiter with reads := b.arbiter.reads ++ [.scanWhole n] } }) ∧
  (h.marker = 0x3F → whole → (∀ e ∈ c.held, e.id ≠ h.id) →
    ∃ b t held, exec .scanRead s = .next t ∧ Claim.scanReadEnded s b ∧
      Claim.scanGoesOn b t (n + h.final) { c with valid := c.valid + 1, held := held } ∧
      Claim.sectorsBecome s t n h.final (.allocated h.id) ∧
      (∀ e, e ∈ held ↔ e ∈ c.held ∨
        e = { id := h.id, state := .valid, first := n, reserved := h.reserved, final := some h.final,
              length := some h.length, level := some h.level,
              loopPoint := if h.loopPoint = 16777215 then none else some h.loopPoint, label := some h.label,
              playerRefs := 0, musicRefs := 0, queueRefs := 0, retireAcked := false, mark := none }) ∧
      (c.held.Pairwise (fun a b => a.id < b.id) → held.Pairwise (fun a b => a.id < b.id)) ∧
      t.arbiter = { b.arbiter with reads := t.arbiter.reads } ∧
      t.store = { b.store with
        sectors := t.store.sectors, scan := t.store.scan, state := t.store.state, catalogue := t.store.catalogue }) ∧
  (h.marker = 0x3F → whole → (∃ e ∈ c.held, e.id = h.id) →
    ∃ t, exec .scanRead s = .next t ∧ Claim.scanFoundRun s t n h.final (some h.id) { c with retired := c.retired + 1 }) ∧
  (h.marker = 0x7F → fits h.reserved →
    ∃ t, exec .scanRead s = .next t ∧ Claim.scanFoundRun s t n h.reserved (some h.id) { c with torn := c.torn + 1 }) ∧
  (h.marker = 0x1F → fits kept →
    ∃ t, exec .scanRead s = .next t ∧ Claim.scanFoundRun s t n kept (some h.id) { c with retired := c.retired + 1 }) ∧
  (((h.marker = 0x3F ∧ ¬whole) ∨ (h.marker = 0x7F ∧ ¬fits h.reserved) ∨ (h.marker = 0x1F ∧ ¬fits kept) ∨
      (h.marker ≠ 0xFF ∧ h.marker ≠ 0x3F ∧ h.marker ≠ 0x7F ∧ h.marker ≠ 0x1F)) →
    ∃ t, exec .scanRead s = .next t ∧ Claim.scanFoundRun s t n 1 none { c with invalid := c.invalid + 1 })

/-- R156, R158, R159, R160: what the scan makes of the header of a sector, consistent or not, and of a sector read whole, and the
end of the scan at sector 4095, by a run that ends there or by the sector itself. (Assumption 19: the order of a found run's
erases. 25: the label of a VALID header is present. 28: a found run carries its header's id and no mark. 29: a header with marker
0x3F that is not consistent is an invalid sector, whatever its id, which is the model's reading. 38: what the arbiter begins
between the scan's reads.) -/
def Obligations.ScanDecides : Prop :=
  (∀ (m : Memory) (a : Nat),
    let b := fun k => (m.read (a + k)).toNat
    let h := readHeader m a
    h.marker = m.read a ∧ h.id = b 1 ∧ h.reserved = 256 * b 2 + b 3 ∧ h.length = 65536 * b 4 + 256 * b 5 + b 6 ∧
      h.final = 256 * b 7 + b 8 ∧ h.level = 256 * b 9 + b 10 ∧ h.loopPoint = 65536 * b 11 + 256 * b 12 + b 13 ∧
      h.labelLength = b 14 ∧ (h.labelLength ≤ 32 → h.label.length = h.labelLength ∧
        ∀ k, k < h.labelLength → h.label.getD k 0 = m.read (a + 15 + k))) ∧
  (∀ (s : State) (n : Nat), s.arbiter.current = some (.read (.scanHeader n)) → Claim.scanReadsHeader s n) ∧
  (∀ (s : State) (n : Nat), s.arbiter.current = some (.read (.scanWhole n)) → Memory.wf s.flash = true →
    ((∀ a, n * 4096 ≤ a → a < n * 4096 + 4096 → s.flash.read a = 0xFF) →
      ∃ b t, exec .scanRead s = .next t ∧ Claim.scanReadEnded s b ∧ Claim.scanGoesOn b t (n + 1) s.store.scan ∧
        Claim.sectorsBecome s t n 1 .free ∧ t.arbiter = { b.arbiter with reads := t.arbiter.reads } ∧
        t.store = { b.store with
          sectors := t.store.sectors, scan := t.store.scan, state := t.store.state, catalogue := t.store.catalogue }) ∧
    ((∃ a, n * 4096 ≤ a ∧ a < n * 4096 + 4096 ∧ s.flash.read a ≠ 0xFF) →
      ∃ t, exec .scanRead s = .next t ∧ Claim.scanFoundRun s t n 1 none
        { s.store.scan with invalid := s.store.scan.invalid + 1 }))

/-- R162, R163: when the flash port is free the arbiter begins a waiting fetch, from the player next above the pointer, else the
oldest read, else the job at the head of the queue; an erase in progress is suspended when a fetch or a read waits, and what the
flash then holds of its sector is what the outside leaves (assumption 26). With nothing waiting ARBITER_START changes nothing
(assumption 3). -/
def Claim.ArbiterServesInRank : Prop :=
  ∀ s : State, s.arbiter.current = none → s.arbiter.recovering = none → s.store.state ≠ .fault →
    let a := s.arbiter
    ((a.erase = none ∨ ∃ e, a.erase = some e ∧ e.suspended = true) →
      (∀ r ∈ a.fetches,
        (∀ x ∈ a.fetches, (r.player.val + 5 - a.pointer.val) % 6 ≤ (x.player.val + 5 - a.pointer.val) % 6) →
        (∀ x ∈ a.fetches, x.player = r.player → x = r) →
        exec .arbiterStart s = .next { s with
          arbiter := { a with current := some (.fetch r), pointer := r.player,
                              fetches := a.fetches.filter (fun x => decide (x.player ≠ r.player)) } }) ∧
      (∀ r rest, a.fetches = [] → a.reads = r :: rest →
        exec .arbiterStart s = .next { s with arbiter := { a with current := some (.read r), reads := rest } })) ∧
    (∀ j rest, a.erase = none → a.fetches = [] → a.reads = [] → a.jobs = j :: rest →
      ∃ t, exec .arbiterStart s = .next t ∧ t = { s with arbiter := t.arbiter, store := t.store } ∧
        rest <+: t.arbiter.jobs ∧
        t.store = { s.store with session := t.store.session, owedMarker := t.store.owedMarker } ∧
        (∀ addr bytes owner, j = .program addr bytes owner →
          t.arbiter = { a with current := some (.program addr bytes owner 0), jobs := t.arbiter.jobs }) ∧
        (∀ n, j = .erase n →
          t.arbiter = { a with
            erase := some { sector := n, micros := 0, suspended := false }, jobs := t.arbiter.jobs })) ∧
    (a.erase = none → a.fetches = [] → a.reads = [] → a.jobs = [] → exec .arbiterStart s = .next s) ∧
    (∀ (e : EraseOp) (left : List Byte), Memory.wf s.flash = true → a.erase = some e → e.suspended = false →
      (a.fetches ≠ [] ∨ a.reads ≠ []) →
      ∃ t, exec (.eraseSuspend left) s = .next t ∧ t.arbiter = { a with erase := some { e with suspended := true } } ∧
        (∀ x, t.flash.read x =
          if e.sector * 4096 ≤ x ∧ x < e.sector * 4096 + 4096 then left.getD (x - e.sector * 4096) (s.flash.read x)
          else s.flash.read x) ∧
        t = { s with arbiter := t.arbiter, flash := t.flash })

/-- R179, R181: the payload of READ_STORE is the start address, in three bytes, and the count. -/
def Claim.ReadStoreFields : Prop :=
  ∀ (b : List Byte) (start count : Nat), parseReadStore b = some (start, count) ↔
    start < 16777216 ∧ count < 256 ∧ b = out24 start ++ [byte count]

/-- R137, R179: READ_STORE and READ_NEXT: the checks, the read cursor, which moves at once, and the wait at the arbiter; the
answer is queued when the arbiter has read the bytes. A refusal with an earlier read of its port still to be answered waits
for it, and is answered right after it (assumption 47). (The payload's fields: R181. The widths and the order of the fields of the
OK response: assumptions 12 and 23.) The delivery of a fetch gives its bytes to a player whose fetch is
LIVE and ends its underrun episode; those of a STALE fetch are discarded. -/
def Claim.StoreReads : Prop :=
  Claim.ReadStoreFields ∧
  (∀ (s : State) (port : PortId) (i : ReqSlot) (c : Instr) (start count : Nat),
    ((∃ payload, c = .readStore port i ∧ s.admits port i .readStore payload ∧ parseReadStore payload = some (start, count)) ∨
      (∃ n : Byte, c = .readNext port i ∧ s.admits port i .readNext [n] ∧ count = n.toNat ∧
        start = (s.port port).readCursor)) →
    let refuses := fun (st : Status) =>
      ∃ t, exec c s = .next t ∧ t = { s with portA := t.portA, portB := t.portB } ∧
        t.port (otherPort port) = s.port (otherPort port) ∧
        ((s.port port).reads = [] → Answered s t port i st []) ∧
        ((s.port port).reads ≠ [] → t.port port =
          { ((s.port port).carryBefore i).defer i with reads := (s.port port).reads ++ [(i, some st)] })
    let fits := 1 ≤ count ∧ count ≤ 128 ∧ start + count ≤ 16777216
    (¬fits → refuses .range) ∧
    (fits → s.store.state = .starting → refuses .notReady) ∧
    (fits → s.store.state = .fault → refuses .storeFault) ∧
    (fits → (s.store.state = .scanning ∨ s.store.state = .ready) →
      ∃ t, exec c s = .next t ∧
        t.port port = { ((s.port port).carryBefore i).defer i with
          readCursor := start + count, reads := (s.port port).reads ++ [(i, none)] } ∧
        t.port (otherPort port) = s.port (otherPort port) ∧
        t.arbiter = { s.arbiter with reads := s.arbiter.reads ++ [.port port i start count] } ∧
        t = { s with arbiter := t.arbiter, portA := t.portA, portB := t.portB })) ∧
  (∀ (s : State) (port : PortId) (i : ReqSlot) (start count : Nat), s.DeferredSound →
    s.arbiter.current = some (.read (.port port i start count)) →
    ∃ t held later, exec .storeReadDone s = .next t ∧ (s.port port).reads = (i, none) :: held ++ later ∧
      (∀ r ∈ held, r.2.isSome = true) ∧ (∀ j st, later.head? ≠ some (j, some st)) ∧
      t.port port = { held.foldl (fun x r => x.respond r.1 (r.2.getD .ok) [])
          ((s.port port).respond i .ok (out24 start ++ byte count :: s.flash.readBytes start count)) with
        reads := later } ∧
      t.port (otherPort port) = s.port (otherPort port) ∧
      t.arbiter = Claim.operationEnded s.arbiter ∧
      t = { s with arbiter := t.arbiter, portA := t.portA, portB := t.portB }) ∧
  Claim.FetchDelivery

/-- R152, R164: a program, ended in 5 ms or timed out, can only clear bits of its own bytes, but for the bytes that the outside
says it left otherwise (assumption 26); every other byte of the flash is as it was. (The contents being canonical, as every step
keeps them. A program that takes exactly 5 ms has not timed out: assumption 35.) The flash port is then free, a suspended erase
resumes where nothing waits (R163), and after a timeout the arbiter waits for a ready report (R161). -/
def Claim.ProgramsClearBits : Prop :=
  ∀ (s : State) (addr : Nat) (bytes left : List Byte) (owner : JobOwner) (micros : Nat) (c : Instr),
    Memory.wf s.flash = true → s.arbiter.current = some (.program addr bytes owner micros) →
    (c = .programDone left ∧ micros ≤ 5000 ∨ c = .programTimeout left ∧ 5000 < micros) →
    ∃ t, exec c s = .next t ∧
      (∀ x, t.flash.read x =
        if addr ≤ x ∧ x < addr + bytes.length then
          left.getD (x - addr) (s.flash.read x &&& bytes.getD (x - addr) 0xFF)
        else s.flash.read x) ∧
      t.arbiter = { Claim.operationEnded s.arbiter with
        recovering := if c = .programTimeout left then some 0 else s.arbiter.recovering, jobs := t.arbiter.jobs } ∧
      t = { s with arbiter := t.arbiter, store := t.store, flash := t.flash, raised := t.raised }

/-- A catalogue in which an entry of the id has been changed, and no other. -/
def Claim.entryChanged (s t : State) (id : Nat) (f : Entry → Entry) : Prop :=
  t.store.catalogue = s.store.catalogue.map (fun e => if e.id = id then f e else e)

/-- R175: the turn of commit step `k` of the session `x` has come: its program joins the job queue where there is a place for it and
the header program has ended; else the step waits. Then the erase list has its turn (R165). -/
def Claim.stepsTo (s t : State) (x : Session) (k : CommitStep) : Prop :=
  (x.headerPending = false → s.arbiter.jobs.length < 16 →
    t.store.session = some { x with commitStep := some k, nextStep := none } ∧
      Claim.eraseListFeeds (s.arbiter.jobs ++ [x.stepJob k]) t) ∧
  (x.headerPending = true ∨ 16 ≤ s.arbiter.jobs.length →
    t.store.session = some { x with nextStep := some k } ∧ Claim.eraseListFeeds s.arbiter.jobs t) ∧
  (16 ≤ s.arbiter.jobs.length → t.arbiter.jobs = s.arbiter.jobs) ∧
  t.store = { s.store with session := t.store.session }

/-- R164, R174, R175, R176, R177: who is told of the end of a program of a load, and what comes of it: the header program and
a page program that verify, the steps of a commit, one that waits for the header program or for a place in a full job queue
among them, LOAD_DONE, and a program that fails, by its verify or by its timeout, which ends the load: the value of its
marker is fixed then, and its job waits where the queue is full (assumption 52). (The operand that gives what the flash
holds: assumption 26. A program that takes exactly 5 ms: 35.) -/
def Claim.LoadProgramsEnd : Prop :=
  ∀ (s : State) (x : Session) (addr : Nat) (bytes left : List Byte) (owner : JobOwner) (micros : Nat),
    s.arbiter.current = some (.program addr bytes owner micros) → s.store.session = some x → s.store.owedMarker = none →
    let holds := ((s.flash.program addr bytes).writeBytes addr (left.take bytes.length)).verifies addr bytes
    (micros ≤ 5000 → holds = true →
      (owner = .header x.id → x.nextStep = none →
        ∃ t, exec (.programDone left) s = .next t ∧
          t.store = { s.store with session := some { x with headerPending := false } } ∧
          Claim.eraseListFeeds s.arbiter.jobs t ∧ t.raised = s.raised) ∧
      (∀ k : CommitStep, owner = .header x.id → x.nextStep = some k →
        ∃ t, exec (.programDone left) s = .next t ∧ Claim.stepsTo s t { x with headerPending := false } k ∧
          t.raised = s.raised) ∧
      (owner = .page x.id →
        ∃ t, exec (.programDone left) s = .next t ∧ t.store = { s.store with session := some { x with state := .opened } } ∧
          t.arbiter.jobs = s.arbiter.jobs ∧ t.raised = s.raised) ∧
      (owner = .commit x.id .page →
        ∃ t, exec (.programDone left) s = .next t ∧ Claim.stepsTo s t { x with commitStep := none } .fields ∧
          t.raised = s.raised) ∧
      (owner = .commit x.id .fields →
        ∃ t, exec (.programDone left) s = .next t ∧ Claim.stepsTo s t { x with commitStep := none } .marker ∧
          t.raised = s.raised) ∧
      (∀ f : CommitFields, owner = .commit x.id .marker → x.commit = some f → f.final ≤ x.reserved →
        ∃ t, exec (.programDone left) s = .next t ∧
          t.store = { s.store with session := none, catalogue := t.store.catalogue, sectors := t.store.sectors } ∧
          t.arbiter.jobs = s.arbiter.jobs ∧
          Claim.entryChanged s t x.id (fun e =>
            { e with state := .valid, final := some f.final, length := some f.length, level := some f.level,
                     loopPoint := f.loopPoint, label := f.label }) ∧
          Claim.sectorsBecome s t (x.first + f.final) (x.reserved - f.final) .free ∧
          Raises s t .store [.loadDone x.id x.first f.final f.length (x.reserved - f.final)])) ∧
    (∀ (c : Instr) (cause : FlashCause) (why : LoadCause),
      (c = .programDone left ∧ micros ≤ 5000 ∧ holds = false ∧ cause = .verify ∧ why = .verify ∨
        c = .programTimeout left ∧ 5000 < micros ∧ cause = .timeout ∧ why = .timeout) →
      (owner = .header x.id ∨ owner = .page x.id ∨ ∃ k, owner = .commit x.id k) →
      ∃ t, exec c s = .next t ∧
        t.store = { s.store with
          session := none, catalogue := t.store.catalogue, sectors := t.store.sectors
          owedMarker := t.store.owedMarker } ∧
        Claim.sectorsBecome s t (addr / 4096) 1 .bad ∧
        Raises s t .store
          [.sectorBad (addr / 4096) .program cause (some x.id), .loadFailed x.id why x.cursor (some (addr / 4096))] ∧
        Claim.entryChanged s t x.id
          (fun e => { e with state := .retiring, mark := some .pending, retireAcked := true }) ∧
        let marker : Job := .program (x.first * 4096)
          [if t.store.sector x.first = .allocated x.id then 0x1F else 0x00] (.marker x.id)
        (s.arbiter.jobs.length < 16 →
          Claim.eraseListFeeds (s.arbiter.jobs ++ [marker]) t ∧ t.store.owedMarker = none) ∧
        (16 ≤ s.arbiter.jobs.length → t.arbiter.jobs = s.arbiter.jobs ∧ t.store.owedMarker = some marker))

/-- R164, R177: a program of a load whose session has ended still runs; one that verifies tells nobody, and one that fails, by
its verify or by its timeout, makes its sector BAD and raises SECTOR_BAD alone. (The operand that gives what the flash holds:
assumption 26. A program that takes exactly 5 ms: 35.) -/
def Claim.EndedLoadPrograms : Prop :=
  ∀ (s : State) (id addr : Nat) (bytes left : List Byte) (owner : JobOwner) (micros : Nat),
    s.arbiter.current = some (.program addr bytes owner micros) →
    (owner = .header id ∨ owner = .page id ∨ ∃ k, owner = .commit id k) →
    (∀ x : Session, s.store.session = some x → x.id ≠ id) →
    let holds := ((s.flash.program addr bytes).writeBytes addr (left.take bytes.length)).verifies addr bytes
    let others := fun (c : Instr) (t : State) =>
      t.arbiter = { Claim.operationEnded s.arbiter with
        recovering := if c = .programTimeout left then some 0 else s.arbiter.recovering } ∧
      t = { s with arbiter := t.arbiter, store := t.store, flash := t.flash, raised := t.raised }
    (micros ≤ 5000 → holds = true →
      ∃ t, exec (.programDone left) s = .next t ∧ t.store = s.store ∧ t.raised = s.raised ∧
        others (.programDone left) t) ∧
    (∀ (c : Instr) (cause : FlashCause),
      (c = .programDone left ∧ micros ≤ 5000 ∧ holds = false ∧ cause = .verify ∨
        c = .programTimeout left ∧ 5000 < micros ∧ cause = .timeout) →
      ∃ t, exec c s = .next t ∧ Claim.sectorsBecome s t (addr / 4096) 1 .bad ∧
        t.store = { s.store with sectors := t.store.sectors } ∧
        Raises s t .store [.sectorBad (addr / 4096) .program cause (some id)] ∧ others c t)

/-- R162, R165, R175, R177: when the arbiter begins the job at the head of the queue, the place that it frees goes to the job
that waits for one, the marker job of a failed load or the commit step whose turn has come, before the erase list takes it;
where nothing waits, and no ERASE job is queued or in progress, the erase list takes it. -/
def Claim.WaitingJobsTakePlaces : Prop :=
  ∀ (s : State) (j : Job) (rest : List Job),
    let a := s.arbiter
    a.current = none → a.recovering = none → a.erase = none → s.store.state ≠ .fault → a.fetches = [] → a.reads = [] →
    a.jobs = j :: rest → rest.length < 16 →
    (∀ m : Job, s.store.owedMarker = some m →
      ∃ t, exec .arbiterStart s = .next t ∧ rest ++ [m] <+: t.arbiter.jobs ∧ t.store.owedMarker = none) ∧
    (∀ (x : Session) (k : CommitStep), s.store.owedMarker = none → s.store.session = some x → x.nextStep = some k →
      x.headerPending = false →
      ∃ t, exec .arbiterStart s = .next t ∧ rest ++ [x.stepJob k] <+: t.arbiter.jobs ∧
        t.store.session = some { x with commitStep := some k, nextStep := none }) ∧
    (∀ (x : Session) (k : CommitStep), s.store.session = some x → x.nextStep = some k → x.headerPending = true →
      ∃ t, exec .arbiterStart s = .next t ∧ t.store.session = some x) ∧
    ∃ t, exec .arbiterStart s = .next t ∧ Claim.eraseListTakesItsTurn s rest t

/-- R163, R165, R169: the end of an erase, in 500 ms of unsuspended time or past it: the sector is erased, or becomes BAD;
when the last sector of a run has ended, every erased sector of the run becomes FREE together, and a retirement is reported;
then the next sector of the head run becomes an ERASE job at the tail of the queue, where no other is queued and the queue
has room (a commit step or a marker job that waits takes its place first: R175, R177). (What a failed erase leaves in the
flash: assumption 26. An erase that takes exactly 500 ms has not timed out: 35.) -/
def Obligations.ErasesEnd : Prop :=
  ∀ (s : State) (e : EraseOp) (r : Run) (rest : List Run) (more : List Nat), Memory.wf s.flash = true →
    s.arbiter.erase = some e → e.suspended = false → s.store.eraseList = r :: rest → r.todo = e.sector :: more →
    (e.micros ≤ 500000 →
      ∃ t, exec .eraseDone s = .next t ∧
        (∀ x, t.flash.read x =
          if e.sector * 4096 ≤ x ∧ x < e.sector * 4096 + 4096 then 0xFF else s.flash.read x) ∧
        t.arbiter = { s.arbiter with erase := none, jobs := t.arbiter.jobs } ∧
        t.store = { s.store with
          sectors := t.store.sectors, eraseList := t.store.eraseList, session := t.store.session
          owedMarker := t.store.owedMarker } ∧
        Claim.eraseListTakesItsTurn s s.arbiter.jobs t ∧
        (more ≠ [] → t.store.eraseList = { r with todo := more, erased := r.erased ++ [e.sector] } :: rest ∧
          t.store.sectors = s.store.sectors ∧ t.raised = s.raised) ∧
        (more = [] → t.store.eraseList = rest ∧
          (∀ n : Fin 4096, look t.store.sectors n =
            if n.val = e.sector ∨ n.val ∈ r.erased then .free else look s.store.sectors n) ∧
          Raises s t .store (match r.mark, r.id with
            | some m, some id => [.retireDone id (r.erased.length + 1) r.bad m]
            | _, _ => [])) ∧
        t = { s with arbiter := t.arbiter, store := t.store, flash := t.flash, raised := t.raised }) ∧
    (∀ left : List Byte, 500000 < e.micros →
      ∃ t, exec (.eraseTimeout left) s = .next t ∧
        (∀ x, t.flash.read x =
          if e.sector * 4096 ≤ x ∧ x < e.sector * 4096 + 4096 then left.getD (x - e.sector * 4096) (s.flash.read x)
          else s.flash.read x) ∧
        t.arbiter = { s.arbiter with erase := none, recovering := some 0, jobs := t.arbiter.jobs } ∧
        t.store = { s.store with
          sectors := t.store.sectors, eraseList := t.store.eraseList, session := t.store.session
          owedMarker := t.store.owedMarker } ∧
        Claim.eraseListTakesItsTurn s s.arbiter.jobs t ∧
        (more ≠ [] → t.store.eraseList = { r with todo := more, bad := r.bad + 1 } :: rest ∧
          Claim.sectorsBecome s t e.sector 1 .bad ∧
          Raises s t .store [.sectorBad e.sector .erase .timeout r.id]) ∧
        (more = [] → t.store.eraseList = rest ∧
          (∀ n : Fin 4096, look t.store.sectors n =
            if n.val ∈ r.erased then .free else if n.val = e.sector then .bad else look s.store.sectors n) ∧
          Raises s t .store (.sectorBad e.sector .erase .timeout r.id :: (match r.mark, r.id with
            | some m, some id => [.retireDone id r.erased.length (r.bad + 1) m]
            | _, _ => []))) ∧
        t = { s with arbiter := t.arbiter, store := t.store, flash := t.flash, raised := t.raised })

/-! ### Loading, retiring and references (chapters 9 and 10) -/

/-- R172, R181: the payload of LOAD_OPEN is the id, in one byte, and max_length, in three. -/
def Claim.LoadOpenFields : Prop :=
  ∀ (b : List Byte) (id max : Nat), parseLoadOpen b = some (id, max) ↔
    id < 256 ∧ max < 16777216 ∧ b = byte id :: out24 max

/-- R172: the checks of LOAD_OPEN in their order, and what an accepted one does: the lowest run of free sectors, the WRITING
entry, the header job and the session. (The payload's fields: R181. The widths and the order of
the fields of the OK response: assumptions 12 and 23.) -/
def Obligations.LoadOpens : Prop :=
  Claim.LoadOpenFields ∧
  ∀ (s : State) (port : PortId) (i : ReqSlot) (payload : List Byte) (id max : Nat),
    s.admits port i .loadOpen payload → parseLoadOpen payload = some (id, max) →
    let n := (64 + max + 4095) / 4096
    let free := fun first => first + n ≤ 4096 ∧ ∀ k : Fin 4096, first ≤ k.val → k.val < first + n →
      look s.store.sectors k = .free
    (id = 0 → Claim.refuses s (.loadOpen port i) port i .range) ∧
    (id ≠ 0 → Claim.refusedUnlessReady s (.loadOpen port i) port i) ∧
    (id ≠ 0 → s.store.state = .ready →
      (s.store.session.isSome = true → Claim.refuses s (.loadOpen port i) port i .busy) ∧
      (s.store.session = none → (∃ e ∈ s.store.catalogue, e.id = id) →
        Claim.refuses s (.loadOpen port i) port i .exists_) ∧
      (s.store.session = none → (∀ e ∈ s.store.catalogue, e.id ≠ id) →
        (4194240 < max → Claim.refuses s (.loadOpen port i) port i .range) ∧
        (max ≤ 4194240 → (∀ first, ¬free first) → Claim.refuses s (.loadOpen port i) port i .noSpace) ∧
        (∀ first, max ≤ 4194240 → free first → (∀ k, k < first → ¬free k) →
          (16 ≤ s.arbiter.jobs.length → Claim.refuses s (.loadOpen port i) port i .busy) ∧
          (s.arbiter.jobs.length < 16 → ∃ t, exec (.loadOpen port i) s = .next t ∧
            Claim.sectorsBecome s t first n (.allocated id) ∧
            (∀ e, e ∈ t.store.catalogue ↔ e ∈ s.store.catalogue ∨
              e = { id := id, state := .writing, first := first, reserved := n, final := none, length := none,
                    level := none, loopPoint := none, label := none, playerRefs := 0, musicRefs := 0, queueRefs := 0,
                    retireAcked := false, mark := none }) ∧
            (s.store.catalogue.Pairwise (fun a b => a.id < b.id) →
              t.store.catalogue.Pairwise (fun a b => a.id < b.id)) ∧
            t.store.session = some
              { owner := port, id := id, first := first, reserved := n, maxLength := max, cursor := 0,
                staging := List.replicate 256 0xFF, state := .opened, headerPending := true, commitStep := none,
                nextStep := none, commit := none, idle := some 5000000 } ∧
            t.arbiter = { s.arbiter with
              jobs := s.arbiter.jobs ++ [.program (first * 4096) [0x7F, byte id, byte (n / 256), byte n] (.header id)] } ∧
            Answered s t port i .ok (out16 first ++ out16 n) ∧
            t = { s with
              store := { s.store with
                sectors := t.store.sectors, catalogue := t.store.catalogue, session := t.store.session }
              arbiter := t.arbiter, portA := t.portA, portB := t.portB }))))

/-- R173, R181: the payload of LOAD_DATA is its 1 to 256 bytes behind a count byte, in which 0x00 stands for 256. -/
def Claim.LoadDataFields : Prop :=
  ∀ b bytes : List Byte, parseLoadData b = some bytes ↔
    1 ≤ bytes.length ∧ bytes.length ≤ 256 ∧ b = (if bytes.length = 256 then 0 else byte bytes.length) :: bytes

/-- R173, R174: the checks of LOAD_DATA in their order, NOT_READY before READY and STORE_FAULT in FAULT first, and what an accepted
one does: its bytes in the staging page, the cursor, the idle timer, and the program of a page that has become full. (The payload's fields: R181. The widths and the order of
the fields of the OK response: assumptions 12 and 23.) -/
def Obligations.LoadDataIsStaged : Prop :=
  Claim.LoadDataFields ∧
  ∀ (s : State) (port : PortId) (i : ReqSlot) (payload bytes : List Byte),
    s.admits port i .loadData payload → parseLoadData payload = some bytes →
    Claim.refusedUnlessReady s (.loadData port i) port i ∧
    (s.store.state = .ready → s.store.session = none → Claim.refuses s (.loadData port i) port i .state) ∧
    (∀ x : Session, s.store.state = .ready → s.store.session = some x →
      (x.owner ≠ port → Claim.refuses s (.loadData port i) port i .state) ∧
      (x.owner = port → x.state = .programming → Claim.refuses s (.loadData port i) port i .busy) ∧
      (x.owner = port → x.state = .committing → Claim.refuses s (.loadData port i) port i .state) ∧
      (∀ page : Nat, x.owner = port → x.state = .opened → page % 256 = 192 → x.cursor < page → page ≤ x.cursor + 256 →
        let o := x.cursor + bytes.length
        let place := (64 + x.cursor) % 256
        (page < o ∨ x.maxLength < o → Claim.refuses s (.loadData port i) port i .range) ∧
        (o = page → o ≤ x.maxLength → 16 ≤ s.arbiter.jobs.length → Claim.refuses s (.loadData port i) port i .busy) ∧
        (o ≤ page → o ≤ x.maxLength → (o < page ∨ s.arbiter.jobs.length < 16) → x.staging.length = 256 →
          ∃ t staged, exec (.loadData port i) s = .next t ∧ staged.length = 256 ∧
            (∀ k, k < 256 → staged.getD k 0 =
              if place ≤ k ∧ k < place + bytes.length then bytes.getD (k - place) 0 else x.staging.getD k 0) ∧
            (o < page →
              t.store = { s.store with session := some { x with staging := staged, cursor := o, idle := some 5000000 } } ∧
              t.arbiter = s.arbiter ∧ Answered s t port i .ok (out24 o ++ [0])) ∧
            (o = page →
              t.store = { s.store with session := some { x with
                staging := List.replicate 256 0xFF, cursor := o, idle := some 5000000, state := .programming } } ∧
              t.arbiter = { s.arbiter with jobs := s.arbiter.jobs ++
                [.program (if x.cursor < 192 then x.first * 4096 + 64 else x.first * 4096 + 64 + (page - 256))
                  (if x.cursor < 192 then staged.drop 64 else staged) (.page x.id)] } ∧
              Answered s t port i .ok (out24 o ++ [1])) ∧
            t = { s with store := t.store, arbiter := t.arbiter, portA := t.portA, portB := t.portB })))

/-- R177: the session `x` has ended without a commit. The value of its marker is fixed here, where its job waits too (assumption
52). Nothing else of the state changes, but the ports (R177). -/
def Claim.loadEnded (s t : State) (x : Session) (cause : LoadCause) : Prop :=
  t.store = { s.store with session := none, catalogue := t.store.catalogue, owedMarker := t.store.owedMarker } ∧
  t.arbiter = { s.arbiter with jobs := t.arbiter.jobs } ∧
  t = { s with store := t.store, arbiter := t.arbiter, raised := t.raised, portA := t.portA, portB := t.portB } ∧
  Raises s t .store [.loadFailed x.id cause x.cursor none] ∧
  Claim.entryChanged s t x.id (fun e => { e with state := .retiring, mark := some .pending, retireAcked := true }) ∧
  let marker : Job := .program (x.first * 4096)
    [if s.store.sector x.first = .allocated x.id then 0x1F else 0x00] (.marker x.id)
  (s.arbiter.jobs.length < 16 →
    Claim.eraseListFeeds (s.arbiter.jobs ++ [marker]) t ∧ t.store.owedMarker = none) ∧
  (16 ≤ s.arbiter.jobs.length → t.arbiter = s.arbiter ∧ t.store.owedMarker = some marker)

/-- R175, R181: the payload of LOAD_COMMIT is the length, the level, and the optional loop point and label, the label behind a count
byte. -/
def Claim.LoadCommitFields : Prop :=
  ∀ (b : List Byte) (a : LoadCommitArgs), parseLoadCommit b = some a ↔
    a.length < 16777216 ∧ a.level < 65536 ∧ (∀ n ∈ a.loopPoint, n < 16777216) ∧ (∀ text ∈ a.label, text.length < 256) ∧
      b = out24 a.length ++ out16 a.level ++ outOpt out24 a.loopPoint
        ++ outOpt (fun text => byte text.length :: text) a.label

/-- R175, R177, R178: LOAD_COMMIT, refused and accepted; LOAD_ABANDON, refused and accepted; and the idle timer that stands at 0
(assumption 35). (The payload's fields: R181. The widths and the order of
the fields of the OK responses: assumptions 12 and 23.) -/
def Claim.LoadsEnd : Prop :=
  Claim.LoadCommitFields ∧
  (∀ (s : State) (port : PortId) (i : ReqSlot) (payload : List Byte), s.admits port i .loadCommit payload →
    Claim.refusedUnlessReady s (.loadCommit port i) port i ∧
    (s.store.state = .ready → s.store.session = none → Claim.refuses s (.loadCommit port i) port i .state)) ∧
  (∀ (s : State) (port : PortId) (i : ReqSlot) (payload : List Byte) (a : LoadCommitArgs) (x : Session),
    s.admits port i .loadCommit payload → parseLoadCommit payload = some a → s.store.state = .ready →
    s.store.session = some x →
    let fits := a.length = x.cursor ∧ (∀ n, a.loopPoint = some n → n < a.length) ∧
      (∀ text, a.label = some text → text.length ≤ 32)
    let final := (64 + a.length + 4095) / 4096
    (x.owner ≠ port ∨ x.state = .committing → Claim.refuses s (.loadCommit port i) port i .state) ∧
    (x.owner = port → x.state = .programming → Claim.refuses s (.loadCommit port i) port i .busy) ∧
    (x.owner = port → x.state = .opened → ¬fits → Claim.refuses s (.loadCommit port i) port i .range) ∧
    (x.owner = port → x.state = .opened → fits → 16 ≤ s.arbiter.jobs.length →
      Claim.refuses s (.loadCommit port i) port i .busy) ∧
    (x.owner = port → x.state = .opened → fits → s.arbiter.jobs.length < 16 → s.store.owedMarker = none →
      let first : CommitStep := if x.cursor ≠ 0 ∧ (64 + x.cursor) % 256 ≠ 0 then .page else .fields
      let after : Session := { x with
        state := .committing, idle := none
        commit := some { length := a.length, final := final, level := a.level, loopPoint := a.loopPoint,
                         label := a.label } }
      ∃ t, exec (.loadCommit port i) s = .next t ∧ Answered s t port i .ok (out16 final) ∧ t.raised = s.raised ∧
        t.store = { s.store with session := t.store.session } ∧
        t.arbiter = { s.arbiter with jobs := t.arbiter.jobs } ∧
        (x.headerPending = true → t.store.session = some { after with nextStep := some first } ∧
          Claim.eraseListFeeds s.arbiter.jobs t) ∧
        (x.headerPending = false →
          t.store.session = some { after with commitStep := some first, nextStep := none } ∧
          Claim.eraseListFeeds (s.arbiter.jobs ++ [after.stepJob first]) t) ∧
        t = { s with store := t.store, arbiter := t.arbiter, portA := t.portA, portB := t.portB })) ∧
  (∀ (s : State) (port : PortId) (i : ReqSlot), s.admits port i .loadAbandon [] →
    Claim.refusedUnlessReady s (.loadAbandon port i) port i ∧
    (s.store.state = .ready →
      (s.store.session = none → Claim.refuses s (.loadAbandon port i) port i .state) ∧
      (∀ x : Session, s.store.session = some x →
        (x.owner ≠ port ∨ x.state = .committing → Claim.refuses s (.loadAbandon port i) port i .state) ∧
        (x.owner = port → x.state ≠ .committing →
          (16 ≤ s.arbiter.jobs.length → Claim.refuses s (.loadAbandon port i) port i .busy) ∧
          (s.arbiter.jobs.length < 16 → ∃ t, exec (.loadAbandon port i) s = .next t ∧ Claim.loadEnded s t x .abandoned ∧
            Answered s t port i .ok (out8 x.id ++ out24 x.cursor)))))) ∧
  (∀ (s : State) (x : Session), s.store.session = some x → x.idle = some 0 →
    ∃ t, exec .loadIdleTimeout s = .next t ∧ Claim.loadEnded s t x .idle ∧ t.portA = s.portA ∧ t.portB = s.portB)

/-- R156, R175: the bytes of the commit programs: the loaded bytes of the staging page at their place in the flash, bytes 4
to 46 of the header, and the marker 0x3F at its byte 0. -/
def Claim.CommitProgramsCarryTheFields : Prop :=
  (∀ (x : Session) (f : CommitFields), x.commit = some f →
    x.stepJob .fields = .program (x.first * 4096 + 4) f.bytes (.commit x.id .fields)) ∧
  (∀ x : Session, x.stepJob .marker = .program (x.first * 4096) [0x3F] (.commit x.id .marker)) ∧
  (∀ x : Session, x.staging.length = 256 → x.cursor ≠ 0 → (64 + x.cursor) % 256 ≠ 0 →
    ∃ bytes : List Byte, x.stepJob .page =
        .program (x.first * 4096 + 64 + (x.cursor - bytes.length)) bytes (.commit x.id .page) ∧
      bytes = (x.staging.take ((64 + x.cursor) % 256)).drop (if x.cursor < 192 then 64 else 0) ∧
      bytes.length = (if x.cursor < 192 then x.cursor else (64 + x.cursor) % 256)) ∧
  (∀ f : CommitFields, f.length < 16777216 → f.final < 65536 → f.level < 65536 →
    (∀ n, f.loopPoint = some n → n < 16777216) → (∀ text, f.label = some text → text.length ≤ 32) →
    let b := fun k => (f.bytes.getD (k - 4) 0).toNat
    f.bytes.length = 43 ∧ 65536 * b 4 + 256 * b 5 + b 6 = f.length ∧ 256 * b 7 + b 8 = f.final ∧
      256 * b 9 + b 10 = f.level ∧ 65536 * b 11 + 256 * b 12 + b 13 = f.loopPoint.getD 16777215 ∧
      b 14 = (f.label.getD []).length ∧
      (∀ k, k < 32 → f.bytes.getD (11 + k) 0 = (f.label.getD []).getD k 0xFF))

/-- R167: the checks of RETIRE_PROMPT in their order, and what an accepted one does. (The widths and the order of the fields of the
OK response: assumptions 12 and 23.) -/
def Claim.RetirePrompt : Prop :=
  ∀ (s : State) (port : PortId) (i : ReqSlot) (id : Byte), s.admits port i .retirePrompt [id] →
    let c : Instr := .retirePrompt port i
    (id = 0 → Claim.refuses s c port i .range) ∧
    (id ≠ 0 → Claim.refusedUnlessReady s c port i) ∧
    (id ≠ 0 → s.store.state = .ready →
      (s.entry? id.toNat = none → Claim.refuses s c port i .noPrompt) ∧
      (∀ e : Entry, s.entry? id.toNat = some e →
        (e.state = .retiring → Claim.refuses s c port i .noPrompt) ∧
        (e.state = .writing → Claim.refuses s c port i .state) ∧
        (e.state = .valid → e.musicRefs ≠ 0 → Claim.refuses s c port i .inUse) ∧
        (e.state = .valid → e.musicRefs = 0 → 16 ≤ s.arbiter.jobs.length → Claim.refuses s c port i .busy) ∧
        (e.state = .valid → e.musicRefs = 0 → s.arbiter.jobs.length < 16 →
          ∃ t, exec c s = .next t ∧
            Claim.entryChanged s t id.toNat
              (fun e => { e with state := .retiring, mark := some .pending, retireAcked := false }) ∧
            t.arbiter = { s.arbiter with
              jobs := s.arbiter.jobs ++ [.program (e.first * 4096) [0x1F] (.marker id.toNat)] } ∧
            t.notices = s.notices ++ [{ src := .store, dst := .player, tidings := .retire id.toNat }] ∧
            Answered s t port i .ok
              (id :: out16 (s.store.entrySectors e).length ++ [byte e.playerRefs, byte e.queueRefs]) ∧
            t = { s with store := { s.store with catalogue := t.store.catalogue }, arbiter := t.arbiter,
                         notices := t.notices, portA := t.portA, portB := t.portB })))

/-- R164 to R168: the counts, the acknowledgement and the mark of an entry follow the player unit's notices and the end of
the marker program; when a RETIRING entry is acknowledged, marked and named by nobody, its sectors join the erase list as one
run, from the highest down after a good marker and from the lowest up after a failed one, and the entry is gone, in FAULT too
(the model's reading, assumption 51); the next sector of the head run then becomes an ERASE job where none is queued or in
progress and the queue has room (R165); a run of no sectors is finished as it joins (assumption 20). (The operand that gives
what the flash holds: assumption 26. A program that takes exactly 5 ms: 35.) -/
def Claim.ReferencesAndDeferredErase : Prop :=
  (∀ (s : State) (id : Nat) (k : PlayerNo) (e : Entry) (ns : List Notice), s.entry? id = some e →
    (s.finds .player .store (.takeUp k id) ns → e.state ≠ .writing →
      ∃ t, exec .takeUp s = .next t ∧
        Claim.entryChanged s t id (fun e => if e.state = .writing then e else { e with playerRefs := e.playerRefs + 1 }) ∧
        t = { s with store := { s.store with catalogue := t.store.catalogue }, notices := ns }) ∧
    (s.finds .player .store (.entryJoined id) ns →
      ∃ t, exec .entryJoined s = .next t ∧
        Claim.entryChanged s t id (fun e => { e with queueRefs := e.queueRefs + 1 }) ∧
        t = { s with store := { s.store with catalogue := t.store.catalogue }, notices := ns })) ∧
  (∀ (s : State) (c : Instr) (id : Nat) (e : Entry) (f : Entry → Entry) (ns : List Notice), s.entry? id = some e →
    ((∃ k music, c = .letGo ∧ s.finds .player .store (.letGo k music id) ns ∧
        f = fun e => { e with playerRefs := e.playerRefs - 1,
                              musicRefs := if music then e.musicRefs - 1 else e.musicRefs }) ∨
      (c = .entryLeft ∧ s.finds .player .store (.entryLeft id) ns ∧
        f = fun e => { e with queueRefs := e.queueRefs - 1 }) ∨
      (c = .retireAck ∧ s.finds .player .store (.retireAck id) ns ∧ f = fun e => { e with retireAcked := true }) ∨
      (∃ addr bytes left micros, c = .programDone left ∧ ns = s.notices ∧ micros ≤ 5000 ∧
        s.arbiter.current = some (.program addr bytes (.marker id) micros) ∧
        ((s.flash.program addr bytes).writeBytes addr (left.take bytes.length)).verifies addr bytes = true ∧ f = fun e => { e with mark := some .done }) ∨
      (∃ addr bytes left micros, c = .programDone left ∧ ns = s.notices ∧ micros ≤ 5000 ∧
        s.arbiter.current = some (.program addr bytes (.marker id) micros) ∧
        ((s.flash.program addr bytes).writeBytes addr (left.take bytes.length)).verifies addr bytes = false ∧
        f = fun e => { e with mark := some .failed }) ∨
      (∃ addr bytes left micros, c = .programTimeout left ∧ ns = s.notices ∧ 5000 < micros ∧
        s.arbiter.current = some (.program addr bytes (.marker id) micros) ∧
        f = fun e => { e with mark := some .failed })) →
    let ready := (f e).state = .retiring ∧ (f e).retireAcked = true ∧ (f e).playerRefs = 0 ∧ (f e).queueRefs = 0 ∧
      ((f e).mark = some .done ∨ (f e).mark = some .failed)
    ∃ t, exec c s = .next t ∧
      t = { s with store := t.store, arbiter := t.arbiter, flash := t.flash, notices := ns, raised := t.raised } ∧
      (c = .letGo ∨ c = .entryLeft ∨ c = .retireAck →
        t.flash = s.flash ∧ t.arbiter = { s.arbiter with jobs := t.arbiter.jobs }) ∧
      (∀ left, c = .programDone left →
        t.arbiter = { Claim.operationEnded s.arbiter with jobs := t.arbiter.jobs }) ∧
      (∀ left, c = .programTimeout left →
        t.arbiter = { Claim.operationEnded s.arbiter with recovering := some 0, jobs := t.arbiter.jobs }) ∧
      (¬ready → Claim.entryChanged s t id f ∧ t.store = { s.store with catalogue := t.store.catalogue } ∧
        t.arbiter.jobs = s.arbiter.jobs ∧ t.raised = s.raised) ∧
      (ready → t.store = { s.store with
          sectors := t.store.sectors, catalogue := t.store.catalogue, eraseList := t.store.eraseList
          session := t.store.session, owedMarker := t.store.owedMarker } ∧
        (∀ x ∈ t.store.catalogue, x.id ≠ id ∧ x ∈ s.store.catalogue) ∧
        (∀ x ∈ s.store.catalogue, x.id ≠ id → x ∈ t.store.catalogue) ∧
        Claim.eraseListTakesItsTurn s s.arbiter.jobs t ∧
        ∀ held, held = s.store.entrySectors e →
          (∀ n : Fin 4096, look t.store.sectors n =
            if n.val ∈ held then .erasing else look s.store.sectors n) ∧
          (held ≠ [] → t.raised = s.raised ∧ t.store.eraseList = s.store.eraseList ++
            [{ todo := if (f e).mark = some .failed then held else held.reverse, erased := [], bad := 0, id := some e.id,
               mark := (f e).mark }]) ∧
          (held = [] → t.store.eraseList = s.store.eraseList ∧
            Raises s t .store [.retireDone e.id 0 0 ((f e).mark.getD .done)])))

/-! ### What every step keeps -/

/-- The flash contents stay in their canonical form, and the job queue within its 16 places (R162), whatever command is taken. -/
def Obligations.FlashAndJobsStaySound : Prop :=
  KeptByEveryStep State.flashSound ∧ KeptByEveryStep State.jobsSound

/-- R1: the fields of every position record that are present keep agreeing with its call state, whatever command is taken. -/
def Obligations.PositionRecordsStaySound : Prop := KeptByEveryStep State.recordsSound

/-- R58, R60, R62, R73, R74, R84: every block of the tap pool stays on the free list or with one canceller, every tap within its
range, the filters, histories and wait list in agreement with their records, and the frames handed to the mixer whole, whatever
command is taken. -/
def Obligations.TapPoolStaysWhole : Prop :=
  KeptByEveryStep State.poolSound ∧ KeptByEveryStep State.tapsSound ∧ KeptByEveryStep State.FiltersSound ∧
    KeptByEveryStep State.framesSound

/-- R16, R113, R179, R183, R184, R186, R188: the slots and queues of the ports stay consistent, the requests their owners have still
to answer agree with the reads that wait (assumption 47), with the attaches that wait for their record, and with the CLEARs whose
slot release is on its way, each of which keeps its slot until the slot map has taken it (assumption 48); and no group comes to
stand in both charters, whatever command is taken. -/
def Obligations.PortsStaySound : Prop :=
  KeptByEveryStep State.portsSound ∧ KeptByEveryStep (fun s => s.portsSound ∧ s.DeferredSound) ∧
    KeptByEveryStep State.chartersSound

/-- R40, R119: the link records stay within their ranges, and so do the hold counts, whatever command is taken. -/
def Obligations.LinksAndHoldCountsStaySound : Prop := KeptByEveryStep State.linksSound ∧ KeptByEveryStep State.countsSound

/-- The state right after reset (assumption 7) is sound in every respect that steps keep. -/
def Obligations.ResetIsSound : Prop :=
  State.reset.flashSound ∧ State.reset.jobsSound ∧ State.reset.recordsSound ∧ State.reset.poolSound ∧
    State.reset.tapsSound ∧ State.reset.FiltersSound ∧ State.reset.framesSound ∧ State.reset.portsSound ∧
    State.reset.DeferredSound ∧ State.reset.chartersSound ∧ State.reset.linksSound ∧ State.reset.countsSound

/-! ### The statements that join several claims -/

/-- R2, R26, R30, R31, R40, R73, R83, R111, R157, R162: what a reset leaves in the position records and in the other
blocks. -/
def Obligations.ResetLeavesTheBlocks : Prop :=
  Claim.ResetLeavesTheRecords ∧ Claim.ResetLeavesTheBlocks

/-- R180, R181, R183: what becomes of a transaction in which the master writes. -/
def Obligations.WriteTransactions : Prop :=
  Claim.WriteIsTakenIn ∧ Claim.WriteFindsNoSlot ∧
    Claim.MalformedWriteIsNotTaken ∧ Claim.TransactionsWithoutAnswer

/-- R180, R185: what a read sends, and when a message leaves. -/
def Obligations.ReadTransactions : Prop :=
  Claim.ReadSendsTheFirstMessage ∧ Claim.AttentionFallsWithTheLastMessage

/-- R184: the checks of the port controller and the responses it queues (an UNKNOWN response without a field: assumption
39). -/
def Obligations.ControllerAnswers : Prop :=
  Claim.CharterBeforePayload ∧ Claim.ResponseKeepsTagAndCode ∧ Claim.UnknownCodeIsAnsweredUnknown

/-- R186, R187: the requests that set a port's charter and its subscription flags. -/
def Obligations.ChartersAndSubscriptions : Prop :=
  Claim.SetCharter ∧ Claim.Subscribe

/-- R187, R188: the way of an event to the queues of the ports. -/
def Obligations.EventsReachTheQueues : Prop :=
  Claim.OfferToAnEventQueue ∧ Claim.EventGoesToItsSubscribers

/-- R11, R12, R13: the requests that hold a call and change its hold. -/
def Obligations.HoldAndSetHold : Prop :=
  Claim.HoldChecks ∧ Claim.HoldHoldsTheCall ∧
    Claim.HoldChangesARunningHold ∧ Claim.SetHoldOutsideHeld

/-- R16, R26, R27: the end of a call, the release of its slots and the answer that waits for it (assumptions 48 and 49). -/
def Obligations.ClearReleasesTheCall : Prop :=
  Claim.ClearEndsTheCall ∧ Claim.ReleasedSlotsAreUnbound

/-- R20, R21: the agent's absence and return. -/
def Obligations.AbsenceAndReturn : Prop :=
  Claim.AbsenceExpiry ∧ Claim.AgentReturns

/-- R107, R109: the requests for a recorded whisper and for the end of a whisper. -/
def Obligations.WhispersAtTheRecord : Prop :=
  Claim.WhisperRequests ∧ Claim.CancelWhisper

/-- R14, R103, R124, R130: what the record makes of the notices of the player unit and of the hold sequencer. -/
def Obligations.PlayerNoticesAtTheRecord : Prop :=
  Claim.OneShotNoticesAtTheRecord ∧ Claim.SubscriptionRefused ∧ Claim.AnnouncementDueAtTheRecord

/-- R112 to R115: the coach requests and the notices between the coach unit and the records. -/
def Obligations.CoachSources : Prop :=
  Claim.SetCoachSource ∧ Claim.SetCoachMode ∧
    Claim.AttachHandshake ∧ Claim.CoachDetaches

/-- R121, R122, R125, R126: the notices of a hold at its sequencer record. -/
def Obligations.HoldSequencer : Prop :=
  Claim.HoldStarts ∧ Claim.HoldChangesAndStops

/-- R104, R143, R149, R150: the notices of the records and of the store controller at the player unit. -/
def Obligations.PlayersBetweenRecordsAndStore : Prop :=
  Claim.SubscriptionsAndLimits ∧ Claim.StoreUnderThePlayers

/-- R140, R141, R142: the requests for a music player. -/
def Obligations.MusicRequests : Prop :=
  Claim.SetMusic ∧ Claim.MusicStopsAndIsReleased

/-- R31 to R35: how sync is found and lost. -/
def Obligations.HighwaySync : Prop :=
  Claim.SearchForSixteenSyncs ∧ Claim.ThirdMissLosesSync

/-- R25, R28 to R30, R32, R47, R84: the sample periods of a frame period and the frame boundary that ends it. -/
def Obligations.FramePeriods : Prop :=
  Claim.SamplePeriodOpens ∧ Claim.FrameBoundaryClosesTheInput

/-- R37, R38, R43, R45, R48: what the part sends on a link, and what each link frame counts. -/
def Obligations.DownstreamFrames : Prop :=
  Claim.DownstreamFrameContents ∧ Claim.AttemptsAndWindows

/-- R39, R44, R46 to R49, R54: what an upstream link frame does, by the link state. -/
def Obligations.UpstreamFrames : Prop :=
  Claim.UpstreamFramesInActive ∧ Claim.UpstreamFramesInTraining

/-- R41, R42, R55, R56: the debounced presence and the absence timer. -/
def Obligations.PresenceAndAbsence : Prop :=
  Claim.PresenceOfTheHeadset ∧ Claim.AbsenceTimerOfACall

/-- R137, R162, R163, R179: the order of the flash port, and the reads. -/
def Obligations.ArbiterAndReads : Prop :=
  Claim.ArbiterServesInRank ∧ Claim.StoreReads

/-- R152, R162, R164, R165, R174 to R177: the end of a program in the flash and at the load session, and the jobs that
wait for a place in the queue. -/
def Obligations.ProgramsEnd : Prop :=
  Claim.ProgramsClearBits ∧ Claim.LoadProgramsEnd ∧
    Claim.EndedLoadPrograms ∧ Claim.WaitingJobsTakePlaces

/-- R156, R175, R177, R178: the ways a load session ends, and what a commit programs. -/
def Obligations.LoadsEnd : Prop :=
  Claim.LoadsEnd ∧ Claim.CommitProgramsCarryTheFields

/-- R164 to R168: how a prompt is retired and when it is erased. -/
def Obligations.Retirement : Prop :=
  Claim.RetirePrompt ∧ Claim.ReferencesAndDeferredErase
end

