-- ==== Sys2Proof/Laws/Memory.lean ====
section
/-!
SUPPORT. The flash contents: a read after a write, and that every operation keeps the canonical form.
-/

namespace Sys2Proof.Machine

/-! ### Reads -/

/-- A read after a write: the byte written at its place, what stood there everywhere else. The canonical form keeps the
rising order that lets an absent address be seen. -/
theorem Memory.read_above {m : Memory} {a : Nat} (h : Memory.above a m = true) : Memory.read m a = erasedByte := by
  induction m with
  | nil => rfl
  | cons c m ih =>
    obtain ⟨k, b⟩ := c
    simp only [Memory.above, List.all_cons, Bool.and_eq_true, decide_eq_true_eq] at h
    have hk : k ≠ a := by omega
    simp only [Memory.read, hk, if_false]
    exact ih (by simpa [Memory.above] using h.2)

theorem Memory.above_mono {m : Memory} {a b : Nat} (h : Memory.above b m = true) (hab : a ≤ b) :
    Memory.above a m = true := by
  simp only [Memory.above, List.all_eq_true, decide_eq_true_eq] at *
  intro c hc
  have := h c hc
  omega

theorem Memory.wf_cons {k : Nat} {b : Byte} {m : Memory} :
    Memory.wf ((k, b) :: m) = true ↔ b ≠ erasedByte ∧ Memory.above k m = true ∧ Memory.wf m = true := by
  simp [Memory.wf, and_assoc]

theorem Memory.read_write (m : Memory) (h : Memory.wf m = true) (a : Nat) (v : Byte) (x : Nat) :
    Memory.read (Memory.write m a v) x = if x = a then v else Memory.read m x := by
  induction m with
  | nil =>
    by_cases hv : v = erasedByte
    · simp [Memory.write, hv, Memory.read]
    · by_cases hx : x = a
      · simp [Memory.write, hv, Memory.read, hx]
      · have : ¬ a = x := fun e => hx e.symm
        simp [Memory.write, hv, Memory.read, hx, this]
  | cons c m ih =>
    obtain ⟨k, b⟩ := c
    obtain ⟨hb, hab, hm⟩ := Memory.wf_cons.mp h
    have ih := ih hm
    by_cases h1 : a < k
    · have hread : Memory.read ((k, b) :: m) a = erasedByte := by
        apply Memory.read_above
        simp only [Memory.above, List.all_cons, Bool.and_eq_true, decide_eq_true_eq]
        exact ⟨h1, by simpa [Memory.above] using Memory.above_mono hab (le_of_lt h1)⟩
      by_cases hv : v = erasedByte
      · simp only [Memory.write, h1, if_true, hv]
        split
        · next e => rw [e, hread]
        · rfl
      · simp only [Memory.write, h1, if_true, hv, if_false]
        by_cases hx : x = a
        · simp [Memory.read, hx]
        · have : ¬ a = x := fun e => hx e.symm
          simp [Memory.read, hx, this]
    · by_cases h2 : a = k
      · subst h2
        by_cases hv : v = erasedByte
        · simp only [Memory.write, lt_irrefl, if_false, hv, if_true]
          by_cases hx : x = a
          · subst hx
            simp [Memory.read_above hab]
          · have : ¬ a = x := fun e => hx e.symm
            simp [Memory.read, hx, this]
        · simp only [Memory.write, lt_irrefl, if_false, hv, if_true]
          by_cases hx : x = a
          · simp [Memory.read, hx]
          · have : ¬ a = x := fun e => hx e.symm
            simp [Memory.read, hx, this]
      · simp only [Memory.write, h1, h2, if_false, Memory.read]
        by_cases hk : k = x
        · have : ¬ x = a := by omega
          simp [hk, this]
        · simp [hk, ih]

/-! ### The canonical form -/

theorem Memory.above_write {m : Memory} {k a : Nat} {v : Byte} (h : Memory.above k m = true) (hk : k < a) :
    Memory.above k (Memory.write m a v) = true := by
  induction m with
  | nil => by_cases hv : v = erasedByte <;> simp [Memory.write, hv, Memory.above, hk]
  | cons c m ih =>
    obtain ⟨j, b⟩ := c
    have hj : k < j ∧ Memory.above k m = true := by simpa [Memory.above] using h
    have ih := ih hj.2
    by_cases h1 : a < j
    · by_cases hv : v = erasedByte
      · simpa [Memory.write, h1, hv] using h
      · simp [Memory.write, h1, hv, Memory.above, hk, hj.1]
        simpa [Memory.above] using hj.2
    · by_cases h2 : a = j
      · by_cases hv : v = erasedByte
        · simpa [Memory.write, h2, hv] using hj.2
        · have := hj.2
          simp only [Memory.write, h2, if_false, if_true, hv, lt_irrefl]
          simp only [Memory.above, List.all_cons, Bool.and_eq_true, decide_eq_true_eq]
          exact ⟨hj.1, by simpa [Memory.above] using this⟩
      · simp only [Memory.write, h1, h2, if_false]
        simp only [Memory.above, List.all_cons, Bool.and_eq_true, decide_eq_true_eq]
        exact ⟨hj.1, by simpa [Memory.above] using ih⟩

/-- A write keeps the canonical form. -/
theorem Memory.wf_write {m : Memory} (h : Memory.wf m = true) (a : Nat) (v : Byte) :
    Memory.wf (Memory.write m a v) = true := by
  induction m with
  | nil => by_cases hv : v = erasedByte <;> simp [Memory.write, hv, Memory.wf, Memory.above]
  | cons c m ih =>
    obtain ⟨k, b⟩ := c
    obtain ⟨hb, hab, hm⟩ := Memory.wf_cons.mp h
    by_cases h1 : a < k
    · by_cases hv : v = erasedByte
      · simpa [Memory.write, h1, hv] using h
      · simp only [Memory.write, h1, if_true, hv, if_false]
        refine Memory.wf_cons.mpr ⟨hv, ?_, h⟩
        simp only [Memory.above, List.all_cons, Bool.and_eq_true, decide_eq_true_eq]
        exact ⟨h1, by simpa [Memory.above] using Memory.above_mono hab (le_of_lt h1)⟩
    · by_cases h2 : a = k
      · subst h2
        by_cases hv : v = erasedByte
        · simpa [Memory.write, hv] using hm
        · simp only [Memory.write, lt_irrefl, if_false, if_true, hv]
          exact Memory.wf_cons.mpr ⟨hv, hab, hm⟩
      · simp only [Memory.write, h1, h2, if_false]
        exact Memory.wf_cons.mpr ⟨hb, Memory.above_write hab (by omega), ih hm⟩

/-- Stored bytes keep the canonical form. -/
theorem Memory.wf_writeBytes {m : Memory} (h : Memory.wf m = true) (a : Nat) (bs : List Byte) :
    Memory.wf (Memory.writeBytes m a bs) = true := by
  induction bs generalizing m a with
  | nil => exact h
  | cons b bs ih => exact ih (Memory.wf_write h a b) (a + 1)

/-- A page program keeps the canonical form. -/
theorem Memory.wf_program {m : Memory} (h : Memory.wf m = true) (a : Nat) (bs : List Byte) :
    Memory.wf (Memory.program m a bs) = true := by
  induction bs generalizing m a with
  | nil => exact h
  | cons b bs ih => exact ih (Memory.wf_write h a _) (a + 1)

theorem Memory.wf_filter {m : Memory} (h : Memory.wf m = true) (f : Host.Cell → Bool) :
    Memory.wf (m.filter f) = true := by
  induction m with
  | nil => rfl
  | cons c m ih =>
    obtain ⟨k, b⟩ := c
    obtain ⟨hb, hab, hm⟩ := Memory.wf_cons.mp h
    have ih := ih hm
    by_cases hf : f (k, b) = true
    · rw [List.filter_cons_of_pos hf]
      refine Memory.wf_cons.mpr ⟨hb, ?_, ih⟩
      simp only [Memory.above, List.all_eq_true, decide_eq_true_eq] at *
      intro c hc
      exact hab c (List.mem_of_mem_filter hc)
    · rw [List.filter_cons_of_neg hf]
      exact ih

/-- A sector erase keeps the canonical form. -/
theorem Memory.wf_eraseSector {m : Memory} (h : Memory.wf m = true) (n : Nat) :
    Memory.wf (Memory.eraseSector m n) = true := Memory.wf_filter h _

/-- R152: after a sector erase the sector reads 0xFF, and every other address as before. -/
theorem Memory.read_eraseSector (m : Memory) (n x : Nat) :
    Memory.read (Memory.eraseSector m n) x = if inSector n x then erasedByte else Memory.read m x := by
  induction m with
  | nil => simp [Memory.eraseSector, Memory.read]
  | cons c m ih =>
    obtain ⟨k, b⟩ := c
    have ih' : Memory.read (List.filter (fun c => !inSector n c.1) m) x =
        if inSector n x = true then erasedByte else Memory.read m x := ih
    by_cases hk : inSector n k = true
    · by_cases hx : k = x
      · subst hx
        simp only [Memory.eraseSector, List.filter_cons, hk, Bool.not_true, Bool.false_eq_true, if_false]
        rw [ih']
        simp [hk]
      · simp only [Memory.eraseSector, List.filter_cons, hk, Bool.not_true, Bool.false_eq_true, if_false]
        rw [ih']
        simp [Memory.read, hx]
    · by_cases hx : k = x
      · subst hx
        simp [Memory.eraseSector, hk, Memory.read]
      · simp only [Memory.eraseSector, List.filter_cons, hk, Bool.not_false, if_true, Memory.read, hx, if_false]
        exact ih'

/-- Bytes stored from an address on leave every other address as it was. -/
theorem Memory.read_writeBytes_outside {m : Memory} (h : Memory.wf m = true) (a : Nat) (bs : List Byte) (x : Nat)
    (hx : x < a ∨ a + bs.length ≤ x) : Memory.read (Memory.writeBytes m a bs) x = Memory.read m x := by
  induction bs generalizing m a with
  | nil => rfl
  | cons b bs ih =>
    simp only [List.length_cons] at hx
    rw [Memory.writeBytes, ih (Memory.wf_write h a b) (a + 1) (by omega), Memory.read_write m h]
    have : ¬ x = a := by omega
    simp [this]

/-- A page program leaves every address outside its bytes as it was. -/
theorem Memory.read_program_outside {m : Memory} (h : Memory.wf m = true) (a : Nat) (bs : List Byte) (x : Nat)
    (hx : x < a ∨ a + bs.length ≤ x) : Memory.read (Memory.program m a bs) x = Memory.read m x := by
  induction bs generalizing m a with
  | nil => rfl
  | cons b bs ih =>
    simp only [List.length_cons] at hx
    rw [Memory.program, ih (Memory.wf_write h a _) (a + 1) (by omega), Memory.read_write m h]
    have : ¬ x = a := by omega
    simp [this]

end Sys2Proof.Machine
end

