-- ==== Sys2Proof/Laws/State.lean ====
section
/-!
SUPPORT. What each update of the state does to each field and to each record: one lemma for each, so that no proof unfolds
an update.
-/

namespace Sys2Proof.Machine

/-! ### modPos -/

@[simp] theorem State.modPos_links (s : State) (p : Pos) (f : PosRec → PosRec) : (s.modPos p f).links = s.links := rfl
@[simp] theorem State.modPos_slotMap (s : State) (p : Pos) (f : PosRec → PosRec) : (s.modPos p f).slotMap = s.slotMap := rfl
@[simp] theorem State.modPos_highway (s : State) (p : Pos) (f : PosRec → PosRec) : (s.modPos p f).highway = s.highway := rfl
@[simp] theorem State.modPos_bus (s : State) (p : Pos) (f : PosRec → PosRec) : (s.modPos p f).bus = s.bus := rfl
@[simp] theorem State.modPos_echo (s : State) (p : Pos) (f : PosRec → PosRec) : (s.modPos p f).echo = s.echo := rfl
@[simp] theorem State.modPos_supp (s : State) (p : Pos) (f : PosRec → PosRec) : (s.modPos p f).supp = s.supp := rfl
@[simp] theorem State.modPos_mix (s : State) (p : Pos) (f : PosRec → PosRec) : (s.modPos p f).mix = s.mix := rfl
@[simp] theorem State.modPos_coach (s : State) (p : Pos) (f : PosRec → PosRec) : (s.modPos p f).coach = s.coach := rfl
@[simp] theorem State.modPos_seqs (s : State) (p : Pos) (f : PosRec → PosRec) : (s.modPos p f).seqs = s.seqs := rfl
@[simp] theorem State.modPos_playerUnit (s : State) (p : Pos) (f : PosRec → PosRec) : (s.modPos p f).playerUnit = s.playerUnit := rfl
@[simp] theorem State.modPos_store (s : State) (p : Pos) (f : PosRec → PosRec) : (s.modPos p f).store = s.store := rfl
@[simp] theorem State.modPos_arbiter (s : State) (p : Pos) (f : PosRec → PosRec) : (s.modPos p f).arbiter = s.arbiter := rfl
@[simp] theorem State.modPos_flash (s : State) (p : Pos) (f : PosRec → PosRec) : (s.modPos p f).flash = s.flash := rfl
@[simp] theorem State.modPos_portA (s : State) (p : Pos) (f : PosRec → PosRec) : (s.modPos p f).portA = s.portA := rfl
@[simp] theorem State.modPos_portB (s : State) (p : Pos) (f : PosRec → PosRec) : (s.modPos p f).portB = s.portB := rfl
@[simp] theorem State.modPos_resetCause (s : State) (p : Pos) (f : PosRec → PosRec) : (s.modPos p f).resetCause = s.resetCause := rfl
@[simp] theorem State.modPos_notices (s : State) (p : Pos) (f : PosRec → PosRec) : (s.modPos p f).notices = s.notices := rfl
@[simp] theorem State.modPos_raised (s : State) (p : Pos) (f : PosRec → PosRec) : (s.modPos p f).raised = s.raised := rfl
@[simp] theorem State.modPos_freeCount (s : State) (p : Pos) (f : PosRec → PosRec) : (s.modPos p f).freeCount = s.freeCount := rfl
@[simp] theorem State.modPos_pending (s : State) (p : Pos) (f : PosRec → PosRec) : (s.modPos p f).pending = s.pending := rfl
@[simp] theorem State.modPos_link (s : State) (p : Pos) (f : PosRec → PosRec) (q : Pos) : (s.modPos p f).link q = s.link q := rfl
@[simp] theorem State.modPos_seq (s : State) (p : Pos) (f : PosRec → PosRec) (q : Pos) : (s.modPos p f).seq q = s.seq q := rfl
@[simp] theorem State.modPos_source (s : State) (p : Pos) (f : PosRec → PosRec) (d : Source) : (s.modPos p f).source d = s.source d := rfl
@[simp] theorem State.modPos_player (s : State) (p : Pos) (f : PosRec → PosRec) (j : PlayerNo) : (s.modPos p f).player j = s.player j := rfl
@[simp] theorem State.modPos_canc (s : State) (p : Pos) (f : PosRec → PosRec) (j : CancId) : (s.modPos p f).canc j = s.canc j := by cases j with | mk q c => cases c <;> rfl
@[simp] theorem State.modPos_port (s : State) (p : Pos) (f : PosRec → PosRec) (y : PortId) : (s.modPos p f).port y = s.port y := by cases y <;> rfl

/-! ### modLink -/

@[simp] theorem State.modLink_records (s : State) (p : Pos) (f : LinkRec → LinkRec) : (s.modLink p f).records = s.records := rfl
@[simp] theorem State.modLink_slotMap (s : State) (p : Pos) (f : LinkRec → LinkRec) : (s.modLink p f).slotMap = s.slotMap := rfl
@[simp] theorem State.modLink_highway (s : State) (p : Pos) (f : LinkRec → LinkRec) : (s.modLink p f).highway = s.highway := rfl
@[simp] theorem State.modLink_bus (s : State) (p : Pos) (f : LinkRec → LinkRec) : (s.modLink p f).bus = s.bus := rfl
@[simp] theorem State.modLink_echo (s : State) (p : Pos) (f : LinkRec → LinkRec) : (s.modLink p f).echo = s.echo := rfl
@[simp] theorem State.modLink_supp (s : State) (p : Pos) (f : LinkRec → LinkRec) : (s.modLink p f).supp = s.supp := rfl
@[simp] theorem State.modLink_mix (s : State) (p : Pos) (f : LinkRec → LinkRec) : (s.modLink p f).mix = s.mix := rfl
@[simp] theorem State.modLink_coach (s : State) (p : Pos) (f : LinkRec → LinkRec) : (s.modLink p f).coach = s.coach := rfl
@[simp] theorem State.modLink_seqs (s : State) (p : Pos) (f : LinkRec → LinkRec) : (s.modLink p f).seqs = s.seqs := rfl
@[simp] theorem State.modLink_playerUnit (s : State) (p : Pos) (f : LinkRec → LinkRec) : (s.modLink p f).playerUnit = s.playerUnit := rfl
@[simp] theorem State.modLink_store (s : State) (p : Pos) (f : LinkRec → LinkRec) : (s.modLink p f).store = s.store := rfl
@[simp] theorem State.modLink_arbiter (s : State) (p : Pos) (f : LinkRec → LinkRec) : (s.modLink p f).arbiter = s.arbiter := rfl
@[simp] theorem State.modLink_flash (s : State) (p : Pos) (f : LinkRec → LinkRec) : (s.modLink p f).flash = s.flash := rfl
@[simp] theorem State.modLink_portA (s : State) (p : Pos) (f : LinkRec → LinkRec) : (s.modLink p f).portA = s.portA := rfl
@[simp] theorem State.modLink_portB (s : State) (p : Pos) (f : LinkRec → LinkRec) : (s.modLink p f).portB = s.portB := rfl
@[simp] theorem State.modLink_resetCause (s : State) (p : Pos) (f : LinkRec → LinkRec) : (s.modLink p f).resetCause = s.resetCause := rfl
@[simp] theorem State.modLink_notices (s : State) (p : Pos) (f : LinkRec → LinkRec) : (s.modLink p f).notices = s.notices := rfl
@[simp] theorem State.modLink_raised (s : State) (p : Pos) (f : LinkRec → LinkRec) : (s.modLink p f).raised = s.raised := rfl
@[simp] theorem State.modLink_freeCount (s : State) (p : Pos) (f : LinkRec → LinkRec) : (s.modLink p f).freeCount = s.freeCount := rfl
@[simp] theorem State.modLink_pending (s : State) (p : Pos) (f : LinkRec → LinkRec) : (s.modLink p f).pending = s.pending := rfl
@[simp] theorem State.modLink_pos (s : State) (p : Pos) (f : LinkRec → LinkRec) (q : Pos) : (s.modLink p f).pos q = s.pos q := rfl
@[simp] theorem State.modLink_seq (s : State) (p : Pos) (f : LinkRec → LinkRec) (q : Pos) : (s.modLink p f).seq q = s.seq q := rfl
@[simp] theorem State.modLink_source (s : State) (p : Pos) (f : LinkRec → LinkRec) (d : Source) : (s.modLink p f).source d = s.source d := rfl
@[simp] theorem State.modLink_player (s : State) (p : Pos) (f : LinkRec → LinkRec) (j : PlayerNo) : (s.modLink p f).player j = s.player j := rfl
@[simp] theorem State.modLink_canc (s : State) (p : Pos) (f : LinkRec → LinkRec) (j : CancId) : (s.modLink p f).canc j = s.canc j := by cases j with | mk q c => cases c <;> rfl
@[simp] theorem State.modLink_port (s : State) (p : Pos) (f : LinkRec → LinkRec) (y : PortId) : (s.modLink p f).port y = s.port y := by cases y <;> rfl

/-! ### modSeq -/

@[simp] theorem State.modSeq_records (s : State) (p : Pos) (f : SeqRec → SeqRec) : (s.modSeq p f).records = s.records := rfl
@[simp] theorem State.modSeq_links (s : State) (p : Pos) (f : SeqRec → SeqRec) : (s.modSeq p f).links = s.links := rfl
@[simp] theorem State.modSeq_slotMap (s : State) (p : Pos) (f : SeqRec → SeqRec) : (s.modSeq p f).slotMap = s.slotMap := rfl
@[simp] theorem State.modSeq_highway (s : State) (p : Pos) (f : SeqRec → SeqRec) : (s.modSeq p f).highway = s.highway := rfl
@[simp] theorem State.modSeq_bus (s : State) (p : Pos) (f : SeqRec → SeqRec) : (s.modSeq p f).bus = s.bus := rfl
@[simp] theorem State.modSeq_echo (s : State) (p : Pos) (f : SeqRec → SeqRec) : (s.modSeq p f).echo = s.echo := rfl
@[simp] theorem State.modSeq_supp (s : State) (p : Pos) (f : SeqRec → SeqRec) : (s.modSeq p f).supp = s.supp := rfl
@[simp] theorem State.modSeq_mix (s : State) (p : Pos) (f : SeqRec → SeqRec) : (s.modSeq p f).mix = s.mix := rfl
@[simp] theorem State.modSeq_coach (s : State) (p : Pos) (f : SeqRec → SeqRec) : (s.modSeq p f).coach = s.coach := rfl
@[simp] theorem State.modSeq_playerUnit (s : State) (p : Pos) (f : SeqRec → SeqRec) : (s.modSeq p f).playerUnit = s.playerUnit := rfl
@[simp] theorem State.modSeq_store (s : State) (p : Pos) (f : SeqRec → SeqRec) : (s.modSeq p f).store = s.store := rfl
@[simp] theorem State.modSeq_arbiter (s : State) (p : Pos) (f : SeqRec → SeqRec) : (s.modSeq p f).arbiter = s.arbiter := rfl
@[simp] theorem State.modSeq_flash (s : State) (p : Pos) (f : SeqRec → SeqRec) : (s.modSeq p f).flash = s.flash := rfl
@[simp] theorem State.modSeq_portA (s : State) (p : Pos) (f : SeqRec → SeqRec) : (s.modSeq p f).portA = s.portA := rfl
@[simp] theorem State.modSeq_portB (s : State) (p : Pos) (f : SeqRec → SeqRec) : (s.modSeq p f).portB = s.portB := rfl
@[simp] theorem State.modSeq_resetCause (s : State) (p : Pos) (f : SeqRec → SeqRec) : (s.modSeq p f).resetCause = s.resetCause := rfl
@[simp] theorem State.modSeq_notices (s : State) (p : Pos) (f : SeqRec → SeqRec) : (s.modSeq p f).notices = s.notices := rfl
@[simp] theorem State.modSeq_raised (s : State) (p : Pos) (f : SeqRec → SeqRec) : (s.modSeq p f).raised = s.raised := rfl
@[simp] theorem State.modSeq_freeCount (s : State) (p : Pos) (f : SeqRec → SeqRec) : (s.modSeq p f).freeCount = s.freeCount := rfl
@[simp] theorem State.modSeq_pending (s : State) (p : Pos) (f : SeqRec → SeqRec) : (s.modSeq p f).pending = s.pending := rfl
@[simp] theorem State.modSeq_pos (s : State) (p : Pos) (f : SeqRec → SeqRec) (q : Pos) : (s.modSeq p f).pos q = s.pos q := rfl
@[simp] theorem State.modSeq_link (s : State) (p : Pos) (f : SeqRec → SeqRec) (q : Pos) : (s.modSeq p f).link q = s.link q := rfl
@[simp] theorem State.modSeq_source (s : State) (p : Pos) (f : SeqRec → SeqRec) (d : Source) : (s.modSeq p f).source d = s.source d := rfl
@[simp] theorem State.modSeq_player (s : State) (p : Pos) (f : SeqRec → SeqRec) (j : PlayerNo) : (s.modSeq p f).player j = s.player j := rfl
@[simp] theorem State.modSeq_canc (s : State) (p : Pos) (f : SeqRec → SeqRec) (j : CancId) : (s.modSeq p f).canc j = s.canc j := by cases j with | mk q c => cases c <;> rfl
@[simp] theorem State.modSeq_port (s : State) (p : Pos) (f : SeqRec → SeqRec) (y : PortId) : (s.modSeq p f).port y = s.port y := by cases y <;> rfl

/-! ### modSupp -/

@[simp] theorem State.modSupp_records (s : State) (p : Pos) (f : SuppRec → SuppRec) : (s.modSupp p f).records = s.records := rfl
@[simp] theorem State.modSupp_links (s : State) (p : Pos) (f : SuppRec → SuppRec) : (s.modSupp p f).links = s.links := rfl
@[simp] theorem State.modSupp_slotMap (s : State) (p : Pos) (f : SuppRec → SuppRec) : (s.modSupp p f).slotMap = s.slotMap := rfl
@[simp] theorem State.modSupp_highway (s : State) (p : Pos) (f : SuppRec → SuppRec) : (s.modSupp p f).highway = s.highway := rfl
@[simp] theorem State.modSupp_bus (s : State) (p : Pos) (f : SuppRec → SuppRec) : (s.modSupp p f).bus = s.bus := rfl
@[simp] theorem State.modSupp_echo (s : State) (p : Pos) (f : SuppRec → SuppRec) : (s.modSupp p f).echo = s.echo := rfl
@[simp] theorem State.modSupp_mix (s : State) (p : Pos) (f : SuppRec → SuppRec) : (s.modSupp p f).mix = s.mix := rfl
@[simp] theorem State.modSupp_coach (s : State) (p : Pos) (f : SuppRec → SuppRec) : (s.modSupp p f).coach = s.coach := rfl
@[simp] theorem State.modSupp_seqs (s : State) (p : Pos) (f : SuppRec → SuppRec) : (s.modSupp p f).seqs = s.seqs := rfl
@[simp] theorem State.modSupp_playerUnit (s : State) (p : Pos) (f : SuppRec → SuppRec) : (s.modSupp p f).playerUnit = s.playerUnit := rfl
@[simp] theorem State.modSupp_store (s : State) (p : Pos) (f : SuppRec → SuppRec) : (s.modSupp p f).store = s.store := rfl
@[simp] theorem State.modSupp_arbiter (s : State) (p : Pos) (f : SuppRec → SuppRec) : (s.modSupp p f).arbiter = s.arbiter := rfl
@[simp] theorem State.modSupp_flash (s : State) (p : Pos) (f : SuppRec → SuppRec) : (s.modSupp p f).flash = s.flash := rfl
@[simp] theorem State.modSupp_portA (s : State) (p : Pos) (f : SuppRec → SuppRec) : (s.modSupp p f).portA = s.portA := rfl
@[simp] theorem State.modSupp_portB (s : State) (p : Pos) (f : SuppRec → SuppRec) : (s.modSupp p f).portB = s.portB := rfl
@[simp] theorem State.modSupp_resetCause (s : State) (p : Pos) (f : SuppRec → SuppRec) : (s.modSupp p f).resetCause = s.resetCause := rfl
@[simp] theorem State.modSupp_notices (s : State) (p : Pos) (f : SuppRec → SuppRec) : (s.modSupp p f).notices = s.notices := rfl
@[simp] theorem State.modSupp_raised (s : State) (p : Pos) (f : SuppRec → SuppRec) : (s.modSupp p f).raised = s.raised := rfl
@[simp] theorem State.modSupp_freeCount (s : State) (p : Pos) (f : SuppRec → SuppRec) : (s.modSupp p f).freeCount = s.freeCount := rfl
@[simp] theorem State.modSupp_pending (s : State) (p : Pos) (f : SuppRec → SuppRec) : (s.modSupp p f).pending = s.pending := rfl
@[simp] theorem State.modSupp_pos (s : State) (p : Pos) (f : SuppRec → SuppRec) (q : Pos) : (s.modSupp p f).pos q = s.pos q := rfl
@[simp] theorem State.modSupp_link (s : State) (p : Pos) (f : SuppRec → SuppRec) (q : Pos) : (s.modSupp p f).link q = s.link q := rfl
@[simp] theorem State.modSupp_seq (s : State) (p : Pos) (f : SuppRec → SuppRec) (q : Pos) : (s.modSupp p f).seq q = s.seq q := rfl
@[simp] theorem State.modSupp_source (s : State) (p : Pos) (f : SuppRec → SuppRec) (d : Source) : (s.modSupp p f).source d = s.source d := rfl
@[simp] theorem State.modSupp_player (s : State) (p : Pos) (f : SuppRec → SuppRec) (j : PlayerNo) : (s.modSupp p f).player j = s.player j := rfl
@[simp] theorem State.modSupp_canc (s : State) (p : Pos) (f : SuppRec → SuppRec) (j : CancId) : (s.modSupp p f).canc j = s.canc j := by cases j with | mk q c => cases c <;> rfl
@[simp] theorem State.modSupp_port (s : State) (p : Pos) (f : SuppRec → SuppRec) (y : PortId) : (s.modSupp p f).port y = s.port y := by cases y <;> rfl

/-! ### modMix -/

@[simp] theorem State.modMix_records (s : State) (p : Pos) (f : MixRec → MixRec) : (s.modMix p f).records = s.records := rfl
@[simp] theorem State.modMix_links (s : State) (p : Pos) (f : MixRec → MixRec) : (s.modMix p f).links = s.links := rfl
@[simp] theorem State.modMix_slotMap (s : State) (p : Pos) (f : MixRec → MixRec) : (s.modMix p f).slotMap = s.slotMap := rfl
@[simp] theorem State.modMix_highway (s : State) (p : Pos) (f : MixRec → MixRec) : (s.modMix p f).highway = s.highway := rfl
@[simp] theorem State.modMix_bus (s : State) (p : Pos) (f : MixRec → MixRec) : (s.modMix p f).bus = s.bus := rfl
@[simp] theorem State.modMix_echo (s : State) (p : Pos) (f : MixRec → MixRec) : (s.modMix p f).echo = s.echo := rfl
@[simp] theorem State.modMix_supp (s : State) (p : Pos) (f : MixRec → MixRec) : (s.modMix p f).supp = s.supp := rfl
@[simp] theorem State.modMix_coach (s : State) (p : Pos) (f : MixRec → MixRec) : (s.modMix p f).coach = s.coach := rfl
@[simp] theorem State.modMix_seqs (s : State) (p : Pos) (f : MixRec → MixRec) : (s.modMix p f).seqs = s.seqs := rfl
@[simp] theorem State.modMix_playerUnit (s : State) (p : Pos) (f : MixRec → MixRec) : (s.modMix p f).playerUnit = s.playerUnit := rfl
@[simp] theorem State.modMix_store (s : State) (p : Pos) (f : MixRec → MixRec) : (s.modMix p f).store = s.store := rfl
@[simp] theorem State.modMix_arbiter (s : State) (p : Pos) (f : MixRec → MixRec) : (s.modMix p f).arbiter = s.arbiter := rfl
@[simp] theorem State.modMix_flash (s : State) (p : Pos) (f : MixRec → MixRec) : (s.modMix p f).flash = s.flash := rfl
@[simp] theorem State.modMix_portA (s : State) (p : Pos) (f : MixRec → MixRec) : (s.modMix p f).portA = s.portA := rfl
@[simp] theorem State.modMix_portB (s : State) (p : Pos) (f : MixRec → MixRec) : (s.modMix p f).portB = s.portB := rfl
@[simp] theorem State.modMix_resetCause (s : State) (p : Pos) (f : MixRec → MixRec) : (s.modMix p f).resetCause = s.resetCause := rfl
@[simp] theorem State.modMix_notices (s : State) (p : Pos) (f : MixRec → MixRec) : (s.modMix p f).notices = s.notices := rfl
@[simp] theorem State.modMix_raised (s : State) (p : Pos) (f : MixRec → MixRec) : (s.modMix p f).raised = s.raised := rfl
@[simp] theorem State.modMix_freeCount (s : State) (p : Pos) (f : MixRec → MixRec) : (s.modMix p f).freeCount = s.freeCount := rfl
@[simp] theorem State.modMix_pending (s : State) (p : Pos) (f : MixRec → MixRec) : (s.modMix p f).pending = s.pending := rfl
@[simp] theorem State.modMix_pos (s : State) (p : Pos) (f : MixRec → MixRec) (q : Pos) : (s.modMix p f).pos q = s.pos q := rfl
@[simp] theorem State.modMix_link (s : State) (p : Pos) (f : MixRec → MixRec) (q : Pos) : (s.modMix p f).link q = s.link q := rfl
@[simp] theorem State.modMix_seq (s : State) (p : Pos) (f : MixRec → MixRec) (q : Pos) : (s.modMix p f).seq q = s.seq q := rfl
@[simp] theorem State.modMix_source (s : State) (p : Pos) (f : MixRec → MixRec) (d : Source) : (s.modMix p f).source d = s.source d := rfl
@[simp] theorem State.modMix_player (s : State) (p : Pos) (f : MixRec → MixRec) (j : PlayerNo) : (s.modMix p f).player j = s.player j := rfl
@[simp] theorem State.modMix_canc (s : State) (p : Pos) (f : MixRec → MixRec) (j : CancId) : (s.modMix p f).canc j = s.canc j := by cases j with | mk q c => cases c <;> rfl
@[simp] theorem State.modMix_port (s : State) (p : Pos) (f : MixRec → MixRec) (y : PortId) : (s.modMix p f).port y = s.port y := by cases y <;> rfl

/-! ### modSource -/

@[simp] theorem State.modSource_records (s : State) (c : Source) (f : CoachRec → CoachRec) : (s.modSource c f).records = s.records := rfl
@[simp] theorem State.modSource_links (s : State) (c : Source) (f : CoachRec → CoachRec) : (s.modSource c f).links = s.links := rfl
@[simp] theorem State.modSource_slotMap (s : State) (c : Source) (f : CoachRec → CoachRec) : (s.modSource c f).slotMap = s.slotMap := rfl
@[simp] theorem State.modSource_highway (s : State) (c : Source) (f : CoachRec → CoachRec) : (s.modSource c f).highway = s.highway := rfl
@[simp] theorem State.modSource_bus (s : State) (c : Source) (f : CoachRec → CoachRec) : (s.modSource c f).bus = s.bus := rfl
@[simp] theorem State.modSource_echo (s : State) (c : Source) (f : CoachRec → CoachRec) : (s.modSource c f).echo = s.echo := rfl
@[simp] theorem State.modSource_supp (s : State) (c : Source) (f : CoachRec → CoachRec) : (s.modSource c f).supp = s.supp := rfl
@[simp] theorem State.modSource_mix (s : State) (c : Source) (f : CoachRec → CoachRec) : (s.modSource c f).mix = s.mix := rfl
@[simp] theorem State.modSource_seqs (s : State) (c : Source) (f : CoachRec → CoachRec) : (s.modSource c f).seqs = s.seqs := rfl
@[simp] theorem State.modSource_playerUnit (s : State) (c : Source) (f : CoachRec → CoachRec) : (s.modSource c f).playerUnit = s.playerUnit := rfl
@[simp] theorem State.modSource_store (s : State) (c : Source) (f : CoachRec → CoachRec) : (s.modSource c f).store = s.store := rfl
@[simp] theorem State.modSource_arbiter (s : State) (c : Source) (f : CoachRec → CoachRec) : (s.modSource c f).arbiter = s.arbiter := rfl
@[simp] theorem State.modSource_flash (s : State) (c : Source) (f : CoachRec → CoachRec) : (s.modSource c f).flash = s.flash := rfl
@[simp] theorem State.modSource_portA (s : State) (c : Source) (f : CoachRec → CoachRec) : (s.modSource c f).portA = s.portA := rfl
@[simp] theorem State.modSource_portB (s : State) (c : Source) (f : CoachRec → CoachRec) : (s.modSource c f).portB = s.portB := rfl
@[simp] theorem State.modSource_resetCause (s : State) (c : Source) (f : CoachRec → CoachRec) : (s.modSource c f).resetCause = s.resetCause := rfl
@[simp] theorem State.modSource_notices (s : State) (c : Source) (f : CoachRec → CoachRec) : (s.modSource c f).notices = s.notices := rfl
@[simp] theorem State.modSource_raised (s : State) (c : Source) (f : CoachRec → CoachRec) : (s.modSource c f).raised = s.raised := rfl
@[simp] theorem State.modSource_freeCount (s : State) (c : Source) (f : CoachRec → CoachRec) : (s.modSource c f).freeCount = s.freeCount := rfl
@[simp] theorem State.modSource_pending (s : State) (c : Source) (f : CoachRec → CoachRec) : (s.modSource c f).pending = s.pending := rfl
@[simp] theorem State.modSource_pos (s : State) (c : Source) (f : CoachRec → CoachRec) (q : Pos) : (s.modSource c f).pos q = s.pos q := rfl
@[simp] theorem State.modSource_link (s : State) (c : Source) (f : CoachRec → CoachRec) (q : Pos) : (s.modSource c f).link q = s.link q := rfl
@[simp] theorem State.modSource_seq (s : State) (c : Source) (f : CoachRec → CoachRec) (q : Pos) : (s.modSource c f).seq q = s.seq q := rfl
@[simp] theorem State.modSource_player (s : State) (c : Source) (f : CoachRec → CoachRec) (j : PlayerNo) : (s.modSource c f).player j = s.player j := rfl
@[simp] theorem State.modSource_canc (s : State) (c : Source) (f : CoachRec → CoachRec) (j : CancId) : (s.modSource c f).canc j = s.canc j := by cases j with | mk q c => cases c <;> rfl
@[simp] theorem State.modSource_port (s : State) (c : Source) (f : CoachRec → CoachRec) (y : PortId) : (s.modSource c f).port y = s.port y := by cases y <;> rfl

/-! ### modPlayer -/

@[simp] theorem State.modPlayer_records (s : State) (k : PlayerNo) (f : Player → Player) : (s.modPlayer k f).records = s.records := rfl
@[simp] theorem State.modPlayer_links (s : State) (k : PlayerNo) (f : Player → Player) : (s.modPlayer k f).links = s.links := rfl
@[simp] theorem State.modPlayer_slotMap (s : State) (k : PlayerNo) (f : Player → Player) : (s.modPlayer k f).slotMap = s.slotMap := rfl
@[simp] theorem State.modPlayer_highway (s : State) (k : PlayerNo) (f : Player → Player) : (s.modPlayer k f).highway = s.highway := rfl
@[simp] theorem State.modPlayer_bus (s : State) (k : PlayerNo) (f : Player → Player) : (s.modPlayer k f).bus = s.bus := rfl
@[simp] theorem State.modPlayer_echo (s : State) (k : PlayerNo) (f : Player → Player) : (s.modPlayer k f).echo = s.echo := rfl
@[simp] theorem State.modPlayer_supp (s : State) (k : PlayerNo) (f : Player → Player) : (s.modPlayer k f).supp = s.supp := rfl
@[simp] theorem State.modPlayer_mix (s : State) (k : PlayerNo) (f : Player → Player) : (s.modPlayer k f).mix = s.mix := rfl
@[simp] theorem State.modPlayer_coach (s : State) (k : PlayerNo) (f : Player → Player) : (s.modPlayer k f).coach = s.coach := rfl
@[simp] theorem State.modPlayer_seqs (s : State) (k : PlayerNo) (f : Player → Player) : (s.modPlayer k f).seqs = s.seqs := rfl
@[simp] theorem State.modPlayer_store (s : State) (k : PlayerNo) (f : Player → Player) : (s.modPlayer k f).store = s.store := rfl
@[simp] theorem State.modPlayer_arbiter (s : State) (k : PlayerNo) (f : Player → Player) : (s.modPlayer k f).arbiter = s.arbiter := rfl
@[simp] theorem State.modPlayer_flash (s : State) (k : PlayerNo) (f : Player → Player) : (s.modPlayer k f).flash = s.flash := rfl
@[simp] theorem State.modPlayer_portA (s : State) (k : PlayerNo) (f : Player → Player) : (s.modPlayer k f).portA = s.portA := rfl
@[simp] theorem State.modPlayer_portB (s : State) (k : PlayerNo) (f : Player → Player) : (s.modPlayer k f).portB = s.portB := rfl
@[simp] theorem State.modPlayer_resetCause (s : State) (k : PlayerNo) (f : Player → Player) : (s.modPlayer k f).resetCause = s.resetCause := rfl
@[simp] theorem State.modPlayer_notices (s : State) (k : PlayerNo) (f : Player → Player) : (s.modPlayer k f).notices = s.notices := rfl
@[simp] theorem State.modPlayer_raised (s : State) (k : PlayerNo) (f : Player → Player) : (s.modPlayer k f).raised = s.raised := rfl
@[simp] theorem State.modPlayer_freeCount (s : State) (k : PlayerNo) (f : Player → Player) : (s.modPlayer k f).freeCount = s.freeCount := rfl
@[simp] theorem State.modPlayer_pending (s : State) (k : PlayerNo) (f : Player → Player) : (s.modPlayer k f).pending = s.pending := rfl
@[simp] theorem State.modPlayer_pos (s : State) (k : PlayerNo) (f : Player → Player) (q : Pos) : (s.modPlayer k f).pos q = s.pos q := rfl
@[simp] theorem State.modPlayer_link (s : State) (k : PlayerNo) (f : Player → Player) (q : Pos) : (s.modPlayer k f).link q = s.link q := rfl
@[simp] theorem State.modPlayer_seq (s : State) (k : PlayerNo) (f : Player → Player) (q : Pos) : (s.modPlayer k f).seq q = s.seq q := rfl
@[simp] theorem State.modPlayer_source (s : State) (k : PlayerNo) (f : Player → Player) (d : Source) : (s.modPlayer k f).source d = s.source d := rfl
@[simp] theorem State.modPlayer_canc (s : State) (k : PlayerNo) (f : Player → Player) (j : CancId) : (s.modPlayer k f).canc j = s.canc j := by cases j with | mk q c => cases c <;> rfl
@[simp] theorem State.modPlayer_port (s : State) (k : PlayerNo) (f : Player → Player) (y : PortId) : (s.modPlayer k f).port y = s.port y := by cases y <;> rfl

/-! ### modCanc -/

@[simp] theorem State.modCanc_records (s : State) (i : CancId) (f : CancRec → CancRec) : (s.modCanc i f).records = s.records := by cases i with | mk q c => cases c <;> rfl
@[simp] theorem State.modCanc_links (s : State) (i : CancId) (f : CancRec → CancRec) : (s.modCanc i f).links = s.links := by cases i with | mk q c => cases c <;> rfl
@[simp] theorem State.modCanc_slotMap (s : State) (i : CancId) (f : CancRec → CancRec) : (s.modCanc i f).slotMap = s.slotMap := by cases i with | mk q c => cases c <;> rfl
@[simp] theorem State.modCanc_highway (s : State) (i : CancId) (f : CancRec → CancRec) : (s.modCanc i f).highway = s.highway := by cases i with | mk q c => cases c <;> rfl
@[simp] theorem State.modCanc_bus (s : State) (i : CancId) (f : CancRec → CancRec) : (s.modCanc i f).bus = s.bus := by cases i with | mk q c => cases c <;> rfl
@[simp] theorem State.modCanc_supp (s : State) (i : CancId) (f : CancRec → CancRec) : (s.modCanc i f).supp = s.supp := by cases i with | mk q c => cases c <;> rfl
@[simp] theorem State.modCanc_mix (s : State) (i : CancId) (f : CancRec → CancRec) : (s.modCanc i f).mix = s.mix := by cases i with | mk q c => cases c <;> rfl
@[simp] theorem State.modCanc_coach (s : State) (i : CancId) (f : CancRec → CancRec) : (s.modCanc i f).coach = s.coach := by cases i with | mk q c => cases c <;> rfl
@[simp] theorem State.modCanc_seqs (s : State) (i : CancId) (f : CancRec → CancRec) : (s.modCanc i f).seqs = s.seqs := by cases i with | mk q c => cases c <;> rfl
@[simp] theorem State.modCanc_playerUnit (s : State) (i : CancId) (f : CancRec → CancRec) : (s.modCanc i f).playerUnit = s.playerUnit := by cases i with | mk q c => cases c <;> rfl
@[simp] theorem State.modCanc_store (s : State) (i : CancId) (f : CancRec → CancRec) : (s.modCanc i f).store = s.store := by cases i with | mk q c => cases c <;> rfl
@[simp] theorem State.modCanc_arbiter (s : State) (i : CancId) (f : CancRec → CancRec) : (s.modCanc i f).arbiter = s.arbiter := by cases i with | mk q c => cases c <;> rfl
@[simp] theorem State.modCanc_flash (s : State) (i : CancId) (f : CancRec → CancRec) : (s.modCanc i f).flash = s.flash := by cases i with | mk q c => cases c <;> rfl
@[simp] theorem State.modCanc_portA (s : State) (i : CancId) (f : CancRec → CancRec) : (s.modCanc i f).portA = s.portA := by cases i with | mk q c => cases c <;> rfl
@[simp] theorem State.modCanc_portB (s : State) (i : CancId) (f : CancRec → CancRec) : (s.modCanc i f).portB = s.portB := by cases i with | mk q c => cases c <;> rfl
@[simp] theorem State.modCanc_resetCause (s : State) (i : CancId) (f : CancRec → CancRec) : (s.modCanc i f).resetCause = s.resetCause := by cases i with | mk q c => cases c <;> rfl
@[simp] theorem State.modCanc_notices (s : State) (i : CancId) (f : CancRec → CancRec) : (s.modCanc i f).notices = s.notices := by cases i with | mk q c => cases c <;> rfl
@[simp] theorem State.modCanc_raised (s : State) (i : CancId) (f : CancRec → CancRec) : (s.modCanc i f).raised = s.raised := by cases i with | mk q c => cases c <;> rfl
@[simp] theorem State.modCanc_freeCount (s : State) (i : CancId) (f : CancRec → CancRec) : (s.modCanc i f).freeCount = s.freeCount := by cases i with | mk q c => cases c <;> rfl
@[simp] theorem State.modCanc_pending (s : State) (i : CancId) (f : CancRec → CancRec) : (s.modCanc i f).pending = s.pending := by cases i with | mk q c => cases c <;> rfl
@[simp] theorem State.modCanc_pos (s : State) (i : CancId) (f : CancRec → CancRec) (q : Pos) : (s.modCanc i f).pos q = s.pos q := by cases i with | mk q c => cases c <;> rfl
@[simp] theorem State.modCanc_link (s : State) (i : CancId) (f : CancRec → CancRec) (q : Pos) : (s.modCanc i f).link q = s.link q := by cases i with | mk q c => cases c <;> rfl
@[simp] theorem State.modCanc_seq (s : State) (i : CancId) (f : CancRec → CancRec) (q : Pos) : (s.modCanc i f).seq q = s.seq q := by cases i with | mk q c => cases c <;> rfl
@[simp] theorem State.modCanc_source (s : State) (i : CancId) (f : CancRec → CancRec) (d : Source) : (s.modCanc i f).source d = s.source d := by cases i with | mk q c => cases c <;> rfl
@[simp] theorem State.modCanc_player (s : State) (i : CancId) (f : CancRec → CancRec) (j : PlayerNo) : (s.modCanc i f).player j = s.player j := by cases i with | mk q c => cases c <;> rfl
@[simp] theorem State.modCanc_port (s : State) (i : CancId) (f : CancRec → CancRec) (y : PortId) : (s.modCanc i f).port y = s.port y := by cases y <;> (cases i with | mk q c => cases c <;> rfl)

/-! ### modPort -/

@[simp] theorem State.modPort_records (s : State) (port : PortId) (f : Port → Port) : (s.modPort port f).records = s.records := by cases port <;> rfl
@[simp] theorem State.modPort_links (s : State) (port : PortId) (f : Port → Port) : (s.modPort port f).links = s.links := by cases port <;> rfl
@[simp] theorem State.modPort_slotMap (s : State) (port : PortId) (f : Port → Port) : (s.modPort port f).slotMap = s.slotMap := by cases port <;> rfl
@[simp] theorem State.modPort_highway (s : State) (port : PortId) (f : Port → Port) : (s.modPort port f).highway = s.highway := by cases port <;> rfl
@[simp] theorem State.modPort_bus (s : State) (port : PortId) (f : Port → Port) : (s.modPort port f).bus = s.bus := by cases port <;> rfl
@[simp] theorem State.modPort_echo (s : State) (port : PortId) (f : Port → Port) : (s.modPort port f).echo = s.echo := by cases port <;> rfl
@[simp] theorem State.modPort_supp (s : State) (port : PortId) (f : Port → Port) : (s.modPort port f).supp = s.supp := by cases port <;> rfl
@[simp] theorem State.modPort_mix (s : State) (port : PortId) (f : Port → Port) : (s.modPort port f).mix = s.mix := by cases port <;> rfl
@[simp] theorem State.modPort_coach (s : State) (port : PortId) (f : Port → Port) : (s.modPort port f).coach = s.coach := by cases port <;> rfl
@[simp] theorem State.modPort_seqs (s : State) (port : PortId) (f : Port → Port) : (s.modPort port f).seqs = s.seqs := by cases port <;> rfl
@[simp] theorem State.modPort_playerUnit (s : State) (port : PortId) (f : Port → Port) : (s.modPort port f).playerUnit = s.playerUnit := by cases port <;> rfl
@[simp] theorem State.modPort_store (s : State) (port : PortId) (f : Port → Port) : (s.modPort port f).store = s.store := by cases port <;> rfl
@[simp] theorem State.modPort_arbiter (s : State) (port : PortId) (f : Port → Port) : (s.modPort port f).arbiter = s.arbiter := by cases port <;> rfl
@[simp] theorem State.modPort_flash (s : State) (port : PortId) (f : Port → Port) : (s.modPort port f).flash = s.flash := by cases port <;> rfl
@[simp] theorem State.modPort_resetCause (s : State) (port : PortId) (f : Port → Port) : (s.modPort port f).resetCause = s.resetCause := by cases port <;> rfl
@[simp] theorem State.modPort_notices (s : State) (port : PortId) (f : Port → Port) : (s.modPort port f).notices = s.notices := by cases port <;> rfl
@[simp] theorem State.modPort_raised (s : State) (port : PortId) (f : Port → Port) : (s.modPort port f).raised = s.raised := by cases port <;> rfl
@[simp] theorem State.modPort_freeCount (s : State) (port : PortId) (f : Port → Port) : (s.modPort port f).freeCount = s.freeCount := by cases port <;> rfl
@[simp] theorem State.modPort_pending (s : State) (port : PortId) (f : Port → Port) : (s.modPort port f).pending = s.pending := by cases port <;> rfl
@[simp] theorem State.modPort_pos (s : State) (port : PortId) (f : Port → Port) (q : Pos) : (s.modPort port f).pos q = s.pos q := by cases port <;> rfl
@[simp] theorem State.modPort_link (s : State) (port : PortId) (f : Port → Port) (q : Pos) : (s.modPort port f).link q = s.link q := by cases port <;> rfl
@[simp] theorem State.modPort_seq (s : State) (port : PortId) (f : Port → Port) (q : Pos) : (s.modPort port f).seq q = s.seq q := by cases port <;> rfl
@[simp] theorem State.modPort_source (s : State) (port : PortId) (f : Port → Port) (d : Source) : (s.modPort port f).source d = s.source d := by cases port <;> rfl
@[simp] theorem State.modPort_player (s : State) (port : PortId) (f : Port → Port) (j : PlayerNo) : (s.modPort port f).player j = s.player j := by cases port <;> rfl
@[simp] theorem State.modPort_canc (s : State) (port : PortId) (f : Port → Port) (j : CancId) : (s.modPort port f).canc j = s.canc j := by cases j with | mk q c => cases c <;> (cases port <;> rfl)

/-! ### tell -/

@[simp] theorem State.tell_records (s : State) (src dst : Block) (x : Tidings) : (s.tell src dst x).records = s.records := rfl
@[simp] theorem State.tell_links (s : State) (src dst : Block) (x : Tidings) : (s.tell src dst x).links = s.links := rfl
@[simp] theorem State.tell_slotMap (s : State) (src dst : Block) (x : Tidings) : (s.tell src dst x).slotMap = s.slotMap := rfl
@[simp] theorem State.tell_highway (s : State) (src dst : Block) (x : Tidings) : (s.tell src dst x).highway = s.highway := rfl
@[simp] theorem State.tell_bus (s : State) (src dst : Block) (x : Tidings) : (s.tell src dst x).bus = s.bus := rfl
@[simp] theorem State.tell_echo (s : State) (src dst : Block) (x : Tidings) : (s.tell src dst x).echo = s.echo := rfl
@[simp] theorem State.tell_supp (s : State) (src dst : Block) (x : Tidings) : (s.tell src dst x).supp = s.supp := rfl
@[simp] theorem State.tell_mix (s : State) (src dst : Block) (x : Tidings) : (s.tell src dst x).mix = s.mix := rfl
@[simp] theorem State.tell_coach (s : State) (src dst : Block) (x : Tidings) : (s.tell src dst x).coach = s.coach := rfl
@[simp] theorem State.tell_seqs (s : State) (src dst : Block) (x : Tidings) : (s.tell src dst x).seqs = s.seqs := rfl
@[simp] theorem State.tell_playerUnit (s : State) (src dst : Block) (x : Tidings) : (s.tell src dst x).playerUnit = s.playerUnit := rfl
@[simp] theorem State.tell_store (s : State) (src dst : Block) (x : Tidings) : (s.tell src dst x).store = s.store := rfl
@[simp] theorem State.tell_arbiter (s : State) (src dst : Block) (x : Tidings) : (s.tell src dst x).arbiter = s.arbiter := rfl
@[simp] theorem State.tell_flash (s : State) (src dst : Block) (x : Tidings) : (s.tell src dst x).flash = s.flash := rfl
@[simp] theorem State.tell_portA (s : State) (src dst : Block) (x : Tidings) : (s.tell src dst x).portA = s.portA := rfl
@[simp] theorem State.tell_portB (s : State) (src dst : Block) (x : Tidings) : (s.tell src dst x).portB = s.portB := rfl
@[simp] theorem State.tell_resetCause (s : State) (src dst : Block) (x : Tidings) : (s.tell src dst x).resetCause = s.resetCause := rfl
@[simp] theorem State.tell_raised (s : State) (src dst : Block) (x : Tidings) : (s.tell src dst x).raised = s.raised := rfl
@[simp] theorem State.tell_freeCount (s : State) (src dst : Block) (x : Tidings) : (s.tell src dst x).freeCount = s.freeCount := rfl
@[simp] theorem State.tell_pending (s : State) (src dst : Block) (x : Tidings) : (s.tell src dst x).pending = s.pending := rfl
@[simp] theorem State.tell_pos (s : State) (src dst : Block) (x : Tidings) (q : Pos) : (s.tell src dst x).pos q = s.pos q := rfl
@[simp] theorem State.tell_link (s : State) (src dst : Block) (x : Tidings) (q : Pos) : (s.tell src dst x).link q = s.link q := rfl
@[simp] theorem State.tell_seq (s : State) (src dst : Block) (x : Tidings) (q : Pos) : (s.tell src dst x).seq q = s.seq q := rfl
@[simp] theorem State.tell_source (s : State) (src dst : Block) (x : Tidings) (d : Source) : (s.tell src dst x).source d = s.source d := rfl
@[simp] theorem State.tell_player (s : State) (src dst : Block) (x : Tidings) (j : PlayerNo) : (s.tell src dst x).player j = s.player j := rfl
@[simp] theorem State.tell_canc (s : State) (src dst : Block) (x : Tidings) (j : CancId) : (s.tell src dst x).canc j = s.canc j := by cases j with | mk q c => cases c <;> rfl
@[simp] theorem State.tell_port (s : State) (src dst : Block) (x : Tidings) (y : PortId) : (s.tell src dst x).port y = s.port y := by cases y <;> rfl

/-! ### raise -/

@[simp] theorem State.raise_records (s : State) (src : Block) (e : Event) : (s.raise src e).records = s.records := rfl
@[simp] theorem State.raise_links (s : State) (src : Block) (e : Event) : (s.raise src e).links = s.links := rfl
@[simp] theorem State.raise_slotMap (s : State) (src : Block) (e : Event) : (s.raise src e).slotMap = s.slotMap := rfl
@[simp] theorem State.raise_highway (s : State) (src : Block) (e : Event) : (s.raise src e).highway = s.highway := rfl
@[simp] theorem State.raise_bus (s : State) (src : Block) (e : Event) : (s.raise src e).bus = s.bus := rfl
@[simp] theorem State.raise_echo (s : State) (src : Block) (e : Event) : (s.raise src e).echo = s.echo := rfl
@[simp] theorem State.raise_supp (s : State) (src : Block) (e : Event) : (s.raise src e).supp = s.supp := rfl
@[simp] theorem State.raise_mix (s : State) (src : Block) (e : Event) : (s.raise src e).mix = s.mix := rfl
@[simp] theorem State.raise_coach (s : State) (src : Block) (e : Event) : (s.raise src e).coach = s.coach := rfl
@[simp] theorem State.raise_seqs (s : State) (src : Block) (e : Event) : (s.raise src e).seqs = s.seqs := rfl
@[simp] theorem State.raise_playerUnit (s : State) (src : Block) (e : Event) : (s.raise src e).playerUnit = s.playerUnit := rfl
@[simp] theorem State.raise_store (s : State) (src : Block) (e : Event) : (s.raise src e).store = s.store := rfl
@[simp] theorem State.raise_arbiter (s : State) (src : Block) (e : Event) : (s.raise src e).arbiter = s.arbiter := rfl
@[simp] theorem State.raise_flash (s : State) (src : Block) (e : Event) : (s.raise src e).flash = s.flash := rfl
@[simp] theorem State.raise_portA (s : State) (src : Block) (e : Event) : (s.raise src e).portA = s.portA := rfl
@[simp] theorem State.raise_portB (s : State) (src : Block) (e : Event) : (s.raise src e).portB = s.portB := rfl
@[simp] theorem State.raise_resetCause (s : State) (src : Block) (e : Event) : (s.raise src e).resetCause = s.resetCause := rfl
@[simp] theorem State.raise_notices (s : State) (src : Block) (e : Event) : (s.raise src e).notices = s.notices := rfl
@[simp] theorem State.raise_freeCount (s : State) (src : Block) (e : Event) : (s.raise src e).freeCount = s.freeCount := rfl
@[simp] theorem State.raise_pending (s : State) (src : Block) (e : Event) : (s.raise src e).pending = s.pending := rfl
@[simp] theorem State.raise_pos (s : State) (src : Block) (e : Event) (q : Pos) : (s.raise src e).pos q = s.pos q := rfl
@[simp] theorem State.raise_link (s : State) (src : Block) (e : Event) (q : Pos) : (s.raise src e).link q = s.link q := rfl
@[simp] theorem State.raise_seq (s : State) (src : Block) (e : Event) (q : Pos) : (s.raise src e).seq q = s.seq q := rfl
@[simp] theorem State.raise_source (s : State) (src : Block) (e : Event) (d : Source) : (s.raise src e).source d = s.source d := rfl
@[simp] theorem State.raise_player (s : State) (src : Block) (e : Event) (j : PlayerNo) : (s.raise src e).player j = s.player j := rfl
@[simp] theorem State.raise_canc (s : State) (src : Block) (e : Event) (j : CancId) : (s.raise src e).canc j = s.canc j := by cases j with | mk q c => cases c <;> rfl
@[simp] theorem State.raise_port (s : State) (src : Block) (e : Event) (y : PortId) : (s.raise src e).port y = s.port y := by cases y <;> rfl

/-! ### modStore -/

@[simp] theorem State.modStore_records (s : State) (f : Store → Store) : (s.modStore f).records = s.records := rfl
@[simp] theorem State.modStore_links (s : State) (f : Store → Store) : (s.modStore f).links = s.links := rfl
@[simp] theorem State.modStore_slotMap (s : State) (f : Store → Store) : (s.modStore f).slotMap = s.slotMap := rfl
@[simp] theorem State.modStore_highway (s : State) (f : Store → Store) : (s.modStore f).highway = s.highway := rfl
@[simp] theorem State.modStore_bus (s : State) (f : Store → Store) : (s.modStore f).bus = s.bus := rfl
@[simp] theorem State.modStore_echo (s : State) (f : Store → Store) : (s.modStore f).echo = s.echo := rfl
@[simp] theorem State.modStore_supp (s : State) (f : Store → Store) : (s.modStore f).supp = s.supp := rfl
@[simp] theorem State.modStore_mix (s : State) (f : Store → Store) : (s.modStore f).mix = s.mix := rfl
@[simp] theorem State.modStore_coach (s : State) (f : Store → Store) : (s.modStore f).coach = s.coach := rfl
@[simp] theorem State.modStore_seqs (s : State) (f : Store → Store) : (s.modStore f).seqs = s.seqs := rfl
@[simp] theorem State.modStore_playerUnit (s : State) (f : Store → Store) : (s.modStore f).playerUnit = s.playerUnit := rfl
@[simp] theorem State.modStore_arbiter (s : State) (f : Store → Store) : (s.modStore f).arbiter = s.arbiter := rfl
@[simp] theorem State.modStore_flash (s : State) (f : Store → Store) : (s.modStore f).flash = s.flash := rfl
@[simp] theorem State.modStore_portA (s : State) (f : Store → Store) : (s.modStore f).portA = s.portA := rfl
@[simp] theorem State.modStore_portB (s : State) (f : Store → Store) : (s.modStore f).portB = s.portB := rfl
@[simp] theorem State.modStore_resetCause (s : State) (f : Store → Store) : (s.modStore f).resetCause = s.resetCause := rfl
@[simp] theorem State.modStore_notices (s : State) (f : Store → Store) : (s.modStore f).notices = s.notices := rfl
@[simp] theorem State.modStore_raised (s : State) (f : Store → Store) : (s.modStore f).raised = s.raised := rfl
@[simp] theorem State.modStore_freeCount (s : State) (f : Store → Store) : (s.modStore f).freeCount = s.freeCount := rfl
@[simp] theorem State.modStore_pending (s : State) (f : Store → Store) : (s.modStore f).pending = s.pending := rfl
@[simp] theorem State.modStore_pos (s : State) (f : Store → Store) (q : Pos) : (s.modStore f).pos q = s.pos q := rfl
@[simp] theorem State.modStore_link (s : State) (f : Store → Store) (q : Pos) : (s.modStore f).link q = s.link q := rfl
@[simp] theorem State.modStore_seq (s : State) (f : Store → Store) (q : Pos) : (s.modStore f).seq q = s.seq q := rfl
@[simp] theorem State.modStore_source (s : State) (f : Store → Store) (d : Source) : (s.modStore f).source d = s.source d := rfl
@[simp] theorem State.modStore_player (s : State) (f : Store → Store) (j : PlayerNo) : (s.modStore f).player j = s.player j := rfl
@[simp] theorem State.modStore_canc (s : State) (f : Store → Store) (j : CancId) : (s.modStore f).canc j = s.canc j := by cases j with | mk q c => cases c <;> rfl
@[simp] theorem State.modStore_port (s : State) (f : Store → Store) (y : PortId) : (s.modStore f).port y = s.port y := by cases y <;> rfl

/-! ### modArbiter -/

@[simp] theorem State.modArbiter_records (s : State) (f : Arbiter → Arbiter) : (s.modArbiter f).records = s.records := rfl
@[simp] theorem State.modArbiter_links (s : State) (f : Arbiter → Arbiter) : (s.modArbiter f).links = s.links := rfl
@[simp] theorem State.modArbiter_slotMap (s : State) (f : Arbiter → Arbiter) : (s.modArbiter f).slotMap = s.slotMap := rfl
@[simp] theorem State.modArbiter_highway (s : State) (f : Arbiter → Arbiter) : (s.modArbiter f).highway = s.highway := rfl
@[simp] theorem State.modArbiter_bus (s : State) (f : Arbiter → Arbiter) : (s.modArbiter f).bus = s.bus := rfl
@[simp] theorem State.modArbiter_echo (s : State) (f : Arbiter → Arbiter) : (s.modArbiter f).echo = s.echo := rfl
@[simp] theorem State.modArbiter_supp (s : State) (f : Arbiter → Arbiter) : (s.modArbiter f).supp = s.supp := rfl
@[simp] theorem State.modArbiter_mix (s : State) (f : Arbiter → Arbiter) : (s.modArbiter f).mix = s.mix := rfl
@[simp] theorem State.modArbiter_coach (s : State) (f : Arbiter → Arbiter) : (s.modArbiter f).coach = s.coach := rfl
@[simp] theorem State.modArbiter_seqs (s : State) (f : Arbiter → Arbiter) : (s.modArbiter f).seqs = s.seqs := rfl
@[simp] theorem State.modArbiter_playerUnit (s : State) (f : Arbiter → Arbiter) : (s.modArbiter f).playerUnit = s.playerUnit := rfl
@[simp] theorem State.modArbiter_store (s : State) (f : Arbiter → Arbiter) : (s.modArbiter f).store = s.store := rfl
@[simp] theorem State.modArbiter_flash (s : State) (f : Arbiter → Arbiter) : (s.modArbiter f).flash = s.flash := rfl
@[simp] theorem State.modArbiter_portA (s : State) (f : Arbiter → Arbiter) : (s.modArbiter f).portA = s.portA := rfl
@[simp] theorem State.modArbiter_portB (s : State) (f : Arbiter → Arbiter) : (s.modArbiter f).portB = s.portB := rfl
@[simp] theorem State.modArbiter_resetCause (s : State) (f : Arbiter → Arbiter) : (s.modArbiter f).resetCause = s.resetCause := rfl
@[simp] theorem State.modArbiter_notices (s : State) (f : Arbiter → Arbiter) : (s.modArbiter f).notices = s.notices := rfl
@[simp] theorem State.modArbiter_raised (s : State) (f : Arbiter → Arbiter) : (s.modArbiter f).raised = s.raised := rfl
@[simp] theorem State.modArbiter_freeCount (s : State) (f : Arbiter → Arbiter) : (s.modArbiter f).freeCount = s.freeCount := rfl
@[simp] theorem State.modArbiter_pending (s : State) (f : Arbiter → Arbiter) : (s.modArbiter f).pending = s.pending := rfl
@[simp] theorem State.modArbiter_pos (s : State) (f : Arbiter → Arbiter) (q : Pos) : (s.modArbiter f).pos q = s.pos q := rfl
@[simp] theorem State.modArbiter_link (s : State) (f : Arbiter → Arbiter) (q : Pos) : (s.modArbiter f).link q = s.link q := rfl
@[simp] theorem State.modArbiter_seq (s : State) (f : Arbiter → Arbiter) (q : Pos) : (s.modArbiter f).seq q = s.seq q := rfl
@[simp] theorem State.modArbiter_source (s : State) (f : Arbiter → Arbiter) (d : Source) : (s.modArbiter f).source d = s.source d := rfl
@[simp] theorem State.modArbiter_player (s : State) (f : Arbiter → Arbiter) (j : PlayerNo) : (s.modArbiter f).player j = s.player j := rfl
@[simp] theorem State.modArbiter_canc (s : State) (f : Arbiter → Arbiter) (j : CancId) : (s.modArbiter f).canc j = s.canc j := by cases j with | mk q c => cases c <;> rfl
@[simp] theorem State.modArbiter_port (s : State) (f : Arbiter → Arbiter) (y : PortId) : (s.modArbiter f).port y = s.port y := by cases y <;> rfl

/-! ### respond -/

@[simp] theorem State.respond_records (s : State) (port : PortId) (i : ReqSlot) (st : Status) (b : List Byte) : (s.respond port i st b).records = s.records := by cases port <;> rfl
@[simp] theorem State.respond_links (s : State) (port : PortId) (i : ReqSlot) (st : Status) (b : List Byte) : (s.respond port i st b).links = s.links := by cases port <;> rfl
@[simp] theorem State.respond_slotMap (s : State) (port : PortId) (i : ReqSlot) (st : Status) (b : List Byte) : (s.respond port i st b).slotMap = s.slotMap := by cases port <;> rfl
@[simp] theorem State.respond_highway (s : State) (port : PortId) (i : ReqSlot) (st : Status) (b : List Byte) : (s.respond port i st b).highway = s.highway := by cases port <;> rfl
@[simp] theorem State.respond_bus (s : State) (port : PortId) (i : ReqSlot) (st : Status) (b : List Byte) : (s.respond port i st b).bus = s.bus := by cases port <;> rfl
@[simp] theorem State.respond_echo (s : State) (port : PortId) (i : ReqSlot) (st : Status) (b : List Byte) : (s.respond port i st b).echo = s.echo := by cases port <;> rfl
@[simp] theorem State.respond_supp (s : State) (port : PortId) (i : ReqSlot) (st : Status) (b : List Byte) : (s.respond port i st b).supp = s.supp := by cases port <;> rfl
@[simp] theorem State.respond_mix (s : State) (port : PortId) (i : ReqSlot) (st : Status) (b : List Byte) : (s.respond port i st b).mix = s.mix := by cases port <;> rfl
@[simp] theorem State.respond_coach (s : State) (port : PortId) (i : ReqSlot) (st : Status) (b : List Byte) : (s.respond port i st b).coach = s.coach := by cases port <;> rfl
@[simp] theorem State.respond_seqs (s : State) (port : PortId) (i : ReqSlot) (st : Status) (b : List Byte) : (s.respond port i st b).seqs = s.seqs := by cases port <;> rfl
@[simp] theorem State.respond_playerUnit (s : State) (port : PortId) (i : ReqSlot) (st : Status) (b : List Byte) : (s.respond port i st b).playerUnit = s.playerUnit := by cases port <;> rfl
@[simp] theorem State.respond_store (s : State) (port : PortId) (i : ReqSlot) (st : Status) (b : List Byte) : (s.respond port i st b).store = s.store := by cases port <;> rfl
@[simp] theorem State.respond_arbiter (s : State) (port : PortId) (i : ReqSlot) (st : Status) (b : List Byte) : (s.respond port i st b).arbiter = s.arbiter := by cases port <;> rfl
@[simp] theorem State.respond_flash (s : State) (port : PortId) (i : ReqSlot) (st : Status) (b : List Byte) : (s.respond port i st b).flash = s.flash := by cases port <;> rfl
@[simp] theorem State.respond_resetCause (s : State) (port : PortId) (i : ReqSlot) (st : Status) (b : List Byte) : (s.respond port i st b).resetCause = s.resetCause := by cases port <;> rfl
@[simp] theorem State.respond_notices (s : State) (port : PortId) (i : ReqSlot) (st : Status) (b : List Byte) : (s.respond port i st b).notices = s.notices := by cases port <;> rfl
@[simp] theorem State.respond_raised (s : State) (port : PortId) (i : ReqSlot) (st : Status) (b : List Byte) : (s.respond port i st b).raised = s.raised := by cases port <;> rfl
@[simp] theorem State.respond_freeCount (s : State) (port : PortId) (i : ReqSlot) (st : Status) (b : List Byte) : (s.respond port i st b).freeCount = s.freeCount := by cases port <;> rfl
@[simp] theorem State.respond_pending (s : State) (port : PortId) (i : ReqSlot) (st : Status) (b : List Byte) : (s.respond port i st b).pending = s.pending := by cases port <;> rfl
@[simp] theorem State.respond_pos (s : State) (port : PortId) (i : ReqSlot) (st : Status) (b : List Byte) (q : Pos) : (s.respond port i st b).pos q = s.pos q := by cases port <;> rfl
@[simp] theorem State.respond_link (s : State) (port : PortId) (i : ReqSlot) (st : Status) (b : List Byte) (q : Pos) : (s.respond port i st b).link q = s.link q := by cases port <;> rfl
@[simp] theorem State.respond_seq (s : State) (port : PortId) (i : ReqSlot) (st : Status) (b : List Byte) (q : Pos) : (s.respond port i st b).seq q = s.seq q := by cases port <;> rfl
@[simp] theorem State.respond_source (s : State) (port : PortId) (i : ReqSlot) (st : Status) (b : List Byte) (d : Source) : (s.respond port i st b).source d = s.source d := by cases port <;> rfl
@[simp] theorem State.respond_player (s : State) (port : PortId) (i : ReqSlot) (st : Status) (b : List Byte) (j : PlayerNo) : (s.respond port i st b).player j = s.player j := by cases port <;> rfl
@[simp] theorem State.respond_canc (s : State) (port : PortId) (i : ReqSlot) (st : Status) (b : List Byte) (j : CancId) : (s.respond port i st b).canc j = s.canc j := by cases j with | mk q c => cases c <;> (cases port <;> rfl)

/-! ### A record after a change -/

@[simp] theorem State.modPos_pos_same (s : State) (p : Pos) (f : PosRec → PosRec) : (s.modPos p f).pos p = f (s.pos p) := by
  simp [State.pos, State.modPos]

@[simp] theorem State.modPos_pos_ne (s : State) (p q : Pos) (f : PosRec → PosRec) (h : q ≠ p) :
    (s.modPos p f).pos q = s.pos q := by
  simp [State.pos, State.modPos, h]

@[simp] theorem State.modLink_link_same (s : State) (p : Pos) (f : LinkRec → LinkRec) :
    (s.modLink p f).link p = f (s.link p) := by
  simp [State.link, State.modLink]

@[simp] theorem State.modLink_link_ne (s : State) (p q : Pos) (f : LinkRec → LinkRec) (h : q ≠ p) :
    (s.modLink p f).link q = s.link q := by
  simp [State.link, State.modLink, h]

@[simp] theorem State.modSeq_seq_same (s : State) (p : Pos) (f : SeqRec → SeqRec) : (s.modSeq p f).seq p = f (s.seq p) := by
  simp [State.seq, State.modSeq]

@[simp] theorem State.modSeq_seq_ne (s : State) (p q : Pos) (f : SeqRec → SeqRec) (h : q ≠ p) :
    (s.modSeq p f).seq q = s.seq q := by
  simp [State.seq, State.modSeq, h]

@[simp] theorem State.modSource_source_same (s : State) (c : Source) (f : CoachRec → CoachRec) :
    (s.modSource c f).source c = f (s.source c) := by
  simp [State.source, State.modSource]

@[simp] theorem State.modSource_source_ne (s : State) (c d : Source) (f : CoachRec → CoachRec) (h : d ≠ c) :
    (s.modSource c f).source d = s.source d := by
  simp [State.source, State.modSource, h]

@[simp] theorem State.modSource_serials (s : State) (c : Source) (f : CoachRec → CoachRec) :
    (s.modSource c f).coach.serials = s.coach.serials := rfl

@[simp] theorem State.modPlayer_player_same (s : State) (k : PlayerNo) (f : Player → Player) :
    (s.modPlayer k f).player k = f (s.player k) := by
  simp [State.player, State.modPlayer]

@[simp] theorem State.modPlayer_player_ne (s : State) (k j : PlayerNo) (f : Player → Player) (h : j ≠ k) :
    (s.modPlayer k f).player j = s.player j := by
  simp [State.player, State.modPlayer, h]

@[simp] theorem State.modPlayer_queue (s : State) (k : PlayerNo) (f : Player → Player) :
    (s.modPlayer k f).playerUnit.queue = s.playerUnit.queue := rfl

@[simp] theorem State.modPlayer_limits (s : State) (k : PlayerNo) (f : Player → Player) :
    (s.modPlayer k f).playerUnit.limits = s.playerUnit.limits := rfl

@[simp] theorem State.modPlayer_fault (s : State) (k : PlayerNo) (f : Player → Player) :
    (s.modPlayer k f).playerUnit.fault = s.playerUnit.fault := rfl

@[simp] theorem State.modCanc_canc_same (s : State) (i : CancId) (f : CancRec → CancRec) :
    (s.modCanc i f).canc i = f (s.canc i) := by
  cases i with
  | mk p c => cases c <;> simp [State.canc, State.modCanc]

@[simp] theorem State.modCanc_canc_ne (s : State) (i j : CancId) (f : CancRec → CancRec) (h : j ≠ i) :
    (s.modCanc i f).canc j = s.canc j := by
  cases i with
  | mk p c =>
    cases j with
    | mk q d =>
      cases c <;> cases d <;> simp only [State.canc, State.modCanc]
      all_goals
        apply look_put_ne
        intro e
        subst e
        exact absurd rfl h

@[simp] theorem State.modCanc_free (s : State) (i : CancId) (f : CancRec → CancRec) :
    (s.modCanc i f).echo.free = s.echo.free := by
  cases i with
  | mk p c => cases c <;> rfl

@[simp] theorem State.modCanc_waiting (s : State) (i : CancId) (f : CancRec → CancRec) :
    (s.modCanc i f).echo.waiting = s.echo.waiting := by
  cases i with
  | mk p c => cases c <;> rfl

@[simp] theorem State.modCanc_taps (s : State) (i : CancId) (f : CancRec → CancRec) :
    (s.modCanc i f).echo.taps = s.echo.taps := by
  cases i with
  | mk p c => cases c <;> rfl

@[simp] theorem State.modCanc_bound (s : State) (i : CancId) (f : CancRec → CancRec) :
    (s.modCanc i f).echo.bound = s.echo.bound := by
  cases i with
  | mk p c => cases c <;> rfl

@[simp] theorem State.modPort_port_same (s : State) (port : PortId) (f : Port → Port) :
    (s.modPort port f).port port = f (s.port port) := by
  cases port <;> rfl

@[simp] theorem State.modPort_port_ne (s : State) (port y : PortId) (f : Port → Port) (h : y ≠ port) :
    (s.modPort port f).port y = s.port y := by
  cases port <;> cases y <;> first | rfl | exact absurd rfl h

@[simp] theorem State.port_slotMap (s : State) (m : SlotMap) (port : PortId) :
    { s with slotMap := m }.port port = s.port port := by
  cases port <;> rfl

@[simp] theorem State.respond_port_same (s : State) (port : PortId) (i : ReqSlot) (st : Status) (b : List Byte) :
    (s.respond port i st b).port port = (s.port port).respond i st b := by
  cases port <;> rfl

@[simp] theorem State.respond_port_ne (s : State) (port y : PortId) (i : ReqSlot) (st : Status) (b : List Byte)
    (h : y ≠ port) : (s.respond port i st b).port y = s.port y := by
  cases port <;> cases y <;> first | rfl | exact absurd rfl h

@[simp] theorem State.tell_notices (s : State) (src dst : Block) (x : Tidings) :
    (s.tell src dst x).notices = s.notices ++ [{ src := src, dst := dst, tidings := x }] := rfl

@[simp] theorem State.raise_raised (s : State) (src : Block) (e : Event) :
    (s.raise src e).raised = s.raised ++ [{ src := src, stamp := s.highway.frameCounter, event := e }] := rfl

@[simp] theorem State.modStore_store (s : State) (f : Store → Store) : (s.modStore f).store = f s.store := rfl

@[simp] theorem State.modArbiter_arbiter (s : State) (f : Arbiter → Arbiter) : (s.modArbiter f).arbiter = f s.arbiter := rfl

end Sys2Proof.Machine
end

