-- ==== Sys2Proof/Laws/Ops.lean ====
section
/-!
SUPPORT. What each shared operation can do, said once: the taking of notices and of raised events, the serving of a
request, the response to it, the slot map, the sector map, the order of the catalogue and of the wait queue, and the blocks
that the operations of the store controller and of the player unit can change.
-/

namespace Sys2Proof.Machine

/-! ### Indexes, counts, tables -/

theorem index?_eq_some {n v : Nat} {i : Fin n} : index? n v = some i ↔ v = i.val := by
  unfold index?
  split
  · rename_i h
    exact ⟨fun e => by cases e; rfl, fun e => by subst e; rfl⟩
  · rename_i h
    exact ⟨fun e => (by cases e), fun e => absurd (e ▸ i.isLt) h⟩

theorem index?_eq_none {n v : Nat} : index? n v = none ↔ n ≤ v := by
  unfold index?
  split <;> simp <;> omega

@[simp] theorem index?_val {n : Nat} (i : Fin n) : index? n i.val = some i := index?_eq_some.mpr rfl

theorem satSucc_eq (top n : Nat) (h : n ≤ top) : satSucc top n = min (n + 1) top := by
  unfold satSucc
  split <;> omega

theorem satSucc_le {top n : Nat} (h : n ≤ top) : satSucc top n ≤ top := by
  rw [satSucc_eq top n h]
  omega

@[simp] theorem mem_allPos (p : Pos) : p ∈ allPos := List.mem_finRange p
@[simp] theorem mem_allPlayers (k : PlayerNo) : k ∈ allPlayers := List.mem_finRange k
@[simp] theorem mem_allSources (c : Source) : c ∈ allSources := List.mem_finRange c
@[simp] theorem mem_allSlots (i : ReqSlot) : i ∈ allSlots := List.mem_finRange i

/-! ### Notices (R3) and raised events (R187) -/

theorem firstNotice_eq_none {src dst : Block} {ns : List Notice} :
    firstNotice src dst ns = none ↔ ∀ n ∈ ns, ¬(n.src = src ∧ n.dst = dst) := by
  induction ns with
  | nil => simp [firstNotice]
  | cons n ns ih =>
    by_cases h : n.src = src ∧ n.dst = dst
    · simp [firstNotice, h]
    · simp only [firstNotice, h, if_false, Option.map_eq_none_iff, ih, List.forall_mem_cons, not_false_eq_true, true_and]

/-- R3: the notice taken is the oldest between its two blocks, and only it goes. -/
theorem firstNotice_eq_some {src dst : Block} {ns rest : List Notice} {t : Tidings}
    (h : firstNotice src dst ns = some (t, rest)) :
    ∃ before after, ns = before ++ { src := src, dst := dst, tidings := t } :: after ∧ rest = before ++ after ∧
      ∀ n ∈ before, ¬(n.src = src ∧ n.dst = dst) := by
  induction ns generalizing rest with
  | nil => cases h
  | cons n ns ih =>
    unfold firstNotice at h
    split at h
    · rename_i e
      cases h
      exact ⟨[], ns, by rw [← e.1, ← e.2]; rfl, rfl, by simp⟩
    · rename_i e
      obtain ⟨⟨u, r⟩, hr, hu⟩ := Option.map_eq_some_iff.mp h
      cases hu
      obtain ⟨before, after, rfl, rfl, hb⟩ := ih hr
      exact ⟨n :: before, after, rfl, rfl, by
        intro m hm
        rcases List.mem_cons.mp hm with rfl | hm
        · exact e
        · exact hb m hm⟩

theorem State.takeNotice_eq_none {s : State} {src dst : Block} :
    s.takeNotice src dst = none ↔ ∀ n ∈ s.notices, ¬(n.src = src ∧ n.dst = dst) := by
  simp only [State.takeNotice, Option.map_eq_none_iff, firstNotice_eq_none]

/-- R3: taking a notice changes nothing but the notices on their way, and takes the oldest between its two blocks. -/
theorem State.takeNotice_eq_some {s t : State} {src dst : Block} {x : Tidings}
    (h : s.takeNotice src dst = some (x, t)) :
    ∃ before after, s.notices = before ++ { src := src, dst := dst, tidings := x } :: after ∧
      t = { s with notices := before ++ after } ∧ ∀ n ∈ before, ¬(n.src = src ∧ n.dst = dst) := by
  obtain ⟨⟨u, r⟩, hr, hu⟩ := Option.map_eq_some_iff.mp h
  cases hu
  obtain ⟨before, after, h1, rfl, hb⟩ := firstNotice_eq_some hr
  exact ⟨before, after, h1, rfl, hb⟩

/-- R3: what holds once the notices between two blocks are off their way, and what the taking of each keeps, holds when all
are taken. -/
theorem State.drain_induction {s : State} {src dst : Block} {f : Tidings → State → State} (P : State → Prop)
    (base : P { s with notices := withoutBetween src dst s.notices })
    (keep : ∀ x t, x ∈ noticesBetween src dst s.notices → P t → P (f x t)) : P (s.drain src dst f) := by
  unfold State.drain
  generalize noticesBetween src dst s.notices = xs at keep ⊢
  generalize ({ s with notices := withoutBetween src dst s.notices } : State) = t at base
  induction xs generalizing t with
  | nil => exact base
  | cons x xs ih => exact ih (fun y u hy => keep y u (List.mem_cons_of_mem x hy)) _ (keep x t (List.mem_cons_self ..) base)

/-- R187: the event offered is the oldest its block raised, and only it goes. -/
theorem firstRaised_eq_some {src : Block} {rs rest : List Raised} {r : Raised}
    (h : firstRaised src rs = some (r, rest)) :
    r.src = src ∧ ∃ before after, rs = before ++ r :: after ∧ rest = before ++ after ∧ ∀ x ∈ before, x.src ≠ src := by
  induction rs generalizing rest with
  | nil => cases h
  | cons x rs ih =>
    unfold firstRaised at h
    split at h
    · rename_i e
      cases h
      exact ⟨e, [], rs, rfl, rfl, by simp⟩
    · rename_i e
      obtain ⟨⟨u, q⟩, hq, hu⟩ := Option.map_eq_some_iff.mp h
      cases hu
      obtain ⟨he, before, after, rfl, rfl, hb⟩ := ih hq
      exact ⟨he, x :: before, after, rfl, rfl, by
        intro m hm
        rcases List.mem_cons.mp hm with rfl | hm
        · exact e
        · exact hb m hm⟩

theorem firstRaised_eq_none {src : Block} {rs : List Raised} : firstRaised src rs = none ↔ ∀ r ∈ rs, r.src ≠ src := by
  induction rs with
  | nil => simp [firstRaised]
  | cons r rs ih =>
    by_cases h : r.src = src
    · simp [firstRaised, h]
    · simp [firstRaised, h, ih]

/-! ### Requests (R183, R184) -/

theorem Port.mayTake_iff {x : Port} {i : ReqSlot} : x.mayTake i = true ↔ x.reaches i = true ∧ x.ownerFree i = true := by
  simp [Port.mayTake]

theorem Port.carriage_ne_refused (x : Port) (i : ReqSlot) (payload : List Byte) (st : Status) :
    x.carriage i payload ≠ .refused st := by
  unfold Port.carriage
  split <;> simp

theorem Port.carriage_eq_carried {x : Port} {i : ReqSlot} {p q : List Byte} :
    x.carriage i p = .carried q ↔ x.ownerFree i = true ∧ p = q := by
  unfold Port.carriage
  split <;> simp_all

/-- R184: the three things that can come of a request when its owner is to take it. -/
theorem State.serve_cases (s : State) (port : PortId) (i : ReqSlot) (c : ReqCode) (f : List Byte → State → State) :
    ((s.port port).admission i c = .wait ∧ s.serve port i c f = s) ∨
    (∃ st, (s.port port).admission i c = .refused st ∧
      s.serve port i c f = (s.modPort port (fun x => x.carryBefore i)).refuseRequest port i c st) ∨
    (∃ payload, (s.port port).admission i c = .carried payload ∧
      s.serve port i c f = f payload (s.modPort port (fun x => x.carryBefore i))) := by
  unfold State.serve
  cases h : (s.port port).admission i c with
  | wait => exact .inl ⟨rfl, rfl⟩
  | refused st => exact .inr (.inl ⟨st, rfl, rfl⟩)
  | carried payload => exact .inr (.inr ⟨payload, rfl, rfl⟩)

/-- R184: a request that the port controller refuses is of its code and has come to its turn, and it fails the charter or the
check of its payload. -/
theorem Port.admission_eq_refused {x : Port} {i : ReqSlot} {c : ReqCode} {st : Status} (h : x.admission i c = .refused st) :
    ∃ tag code payload, look x.slots i = .request tag code payload false ∧ codeOf code = some c ∧ x.reaches i = true ∧
      (x.charter.allows c = false ∧ st = .charter ∨
        x.charter.allows c = true ∧ payloadFits c payload = false ∧ st = .range) := by
  unfold Port.admission at h
  split at h
  · rename_i tag code payload carried hs
    split at h
    · rename_i hc
      cases carried with
      | true => exact absurd h (Port.carriage_ne_refused x i payload st)
      | false =>
        refine ⟨tag, code, payload, hs, hc.1, hc.2, ?_⟩
        simp only [Bool.false_eq_true, if_false] at h
        split at h
        · rename_i ha
          split at h
          · exact absurd h (Port.carriage_ne_refused x i payload st)
          · rename_i hf
            cases h
            exact .inr ⟨ha, by simpa using hf, rfl⟩
        · rename_i ha
          cases h
          exact .inl ⟨by simpa using ha, rfl⟩
    · cases h
  · cases h

/-- R184: a request that its owner takes is of its code, waits in its slot with no earlier request at its owner, and either was
carried already or passes the charter and the check of its payload. -/
theorem Port.admission_eq_carried {x : Port} {i : ReqSlot} {c : ReqCode} {payload : List Byte}
    (h : x.admission i c = .carried payload) :
    ∃ tag code carried, look x.slots i = .request tag code payload carried ∧ codeOf code = some c ∧ x.mayTake i = true ∧
      (carried = true ∨ (x.charter.allows c = true ∧ payloadFits c payload = true)) := by
  unfold Port.admission at h
  split at h
  · rename_i tag code pl carried hs
    split at h
    · rename_i hc
      split at h
      · rename_i ht
        obtain ⟨ho, rfl⟩ := Port.carriage_eq_carried.mp h
        exact ⟨tag, code, carried, hs, hc.1, Port.mayTake_iff.mpr ⟨hc.2, ho⟩, .inl ht⟩
      · split at h
        · rename_i ha
          split at h
          · rename_i hf
            obtain ⟨ho, rfl⟩ := Port.carriage_eq_carried.mp h
            exact ⟨tag, code, carried, hs, hc.1, Port.mayTake_iff.mpr ⟨hc.2, ho⟩, .inr ⟨ha, hf⟩⟩
          · cases h
        · cases h
    · cases h
  · cases h

/-- R179: the answers of held refusals touch nothing but the slots, the order of intake and of the answers, and the reads. -/
theorem Port.answerHeld_frame (rs : List (ReqSlot × Option Status)) (x : Port) :
    Port.answerHeld rs x =
      { x with slots := (Port.answerHeld rs x).slots, intake := (Port.answerHeld rs x).intake,
               answered := (Port.answerHeld rs x).answered, reads := (Port.answerHeld rs x).reads } := by
  induction rs generalizing x with
  | nil => rfl
  | cons r rs ih =>
    obtain ⟨i, o⟩ := r
    cases o with
    | none => rfl
    | some st =>
      simp only [Port.answerHeld]
      rw [ih]
      unfold Port.respond
      split <;> rfl

/-- R184: the response of a slot that holds a request. -/
theorem Port.respond_request {x : Port} {i : ReqSlot} {tag code : Byte} {payload : List Byte} {carried : Bool}
    (h : look x.slots i = .request tag code payload carried) (st : Status) (b : List Byte) :
    x.respond i st b =
      { x with slots := put x.slots i (.response { tag := tag, code := code, status := st, payload := b })
               intake := x.intake.filter (fun j => decide (j ≠ i))
               answered := x.answered ++ [i] } := by
  simp only [Port.respond, h]

/-- R184: carrying marks the requests taken in before this one and changes nothing else of a slot. -/
theorem Port.look_carryBefore (x : Port) (i j : ReqSlot) :
    look (x.carryBefore i).slots j = look x.slots j ∨ look (x.carryBefore i).slots j = (look x.slots j).markCarried := by
  unfold Port.carryBefore
  generalize x.before i = l
  generalize hS : x.slots = S
  suffices H : ∀ (l : List ReqSlot) (T : Table 4 SlotHolds),
      (look T j = look S j ∨ look T j = (look S j).markCarried) →
      (look (l.foldl (fun t j => put t j (look t j).markCarried) T) j = look S j ∨
        look (l.foldl (fun t j => put t j (look t j).markCarried) T) j = (look S j).markCarried) from H l S (.inl rfl)
  intro l
  induction l with
  | nil => exact fun T h => h
  | cons k l ih =>
    intro T h
    apply ih
    by_cases hk : j = k
    · subst hk
      rw [look_put_same]
      rcases h with h | h <;> rw [h]
      · exact .inr rfl
      · cases look S j <;> exact .inr rfl
    · rw [look_put_ne _ _ _ _ hk]
      exact h

/-- The payload of a slot that holds a request. -/
theorem Port.payloadIn_request {x : Port} {i : ReqSlot} {tag code : Byte} {payload : List Byte} {carried : Bool}
    (h : look x.slots i = .request tag code payload carried) : x.payloadIn i = payload := by
  simp only [Port.payloadIn, h]

/-- R184: carrying keeps the payload of every request. -/
@[simp] theorem Port.payloadIn_carryBefore (x : Port) (i j : ReqSlot) : (x.carryBefore i).payloadIn j = x.payloadIn j := by
  unfold Port.payloadIn
  rcases Port.look_carryBefore x i j with h | h <;> rw [h]
  cases look x.slots j <;> rfl

/-- R5, R184: what the port controller answers to a request that it refuses, where no read of the port is to be answered. -/
theorem State.refuseRequest_of_not_read {s : State} {port : PortId} {i : ReqSlot} {c : ReqCode} (h : c.isRead = false)
    (st : Status) :
    s.refuseRequest port i c st = s.respond port i st (c.refusalFields ((s.port port).payloadIn i)) := by
  simp [State.refuseRequest, h]

/-- R84: the microphone input that a link hands. -/
theorem LinkRec.micIn_cases (r : LinkRec) :
    (r.callBound = false ∧ r.micIn = .missing) ∨
    (r.callBound = true ∧ r.micIn.samples = r.mic.toList.map (fun x => x.getD 0) ∧
      r.micIn.whole = r.mic.toList.all Option.isSome ∧ r.micIn.active = decide (r.linkState = .active)) := by
  unfold LinkRec.micIn
  cases r.callBound <;> simp

/-! ### The slot map (R26, R27) -/

theorem SlotMap.look_release_rx (m : SlotMap) (p : Pos) (n : Timeslot) :
    look (m.release p).rx n = if look m.rx n = .customer p then .unbound else look m.rx n := by
  simp [SlotMap.release]

theorem SlotMap.look_release_tx (m : SlotMap) (p : Pos) (n : Timeslot) :
    look (m.release p).tx n = if look m.tx n = .send p then .unbound else look m.tx n := by
  simp [SlotMap.release]

theorem SlotMap.look_bindSource_rx (m : SlotMap) (c : Source) (rx tx : Option Timeslot) (n : Timeslot) :
    look (m.bindSource c rx tx).rx n =
      if rx = some n then .coach c else if look m.rx n = .coach c then .unbound else look m.rx n := by
  simp [SlotMap.bindSource]

theorem SlotMap.look_bindSource_tx (m : SlotMap) (c : Source) (rx tx : Option Timeslot) (n : Timeslot) :
    look (m.bindSource c rx tx).tx n =
      if tx = some n then .monitor c else if look m.tx n = .monitor c then .unbound else look m.tx n := by
  simp [SlotMap.bindSource]

/-- R16, R27: what taking a release does: the slots of the position are free, the CLEAR is answered OK, and nothing else
changes. -/
theorem takeRelease_eq (p : Pos) (port : PortId) (i : ReqSlot) (s : State) :
    takeRelease p port i s =
      { s with slotMap := s.slotMap.release p, portA := (takeRelease p port i s).portA,
               portB := (takeRelease p port i s).portB } := by
  unfold takeRelease
  generalize s.slotMap.release p = m
  generalize out8 p = b
  cases port <;> rfl

@[simp] theorem takeRelease_slotMap (p : Pos) (port : PortId) (i : ReqSlot) (s : State) :
    (takeRelease p port i s).slotMap = s.slotMap.release p := by
  simp only [takeRelease, State.respond_slotMap]

@[simp] theorem takeRelease_notices (p : Pos) (port : PortId) (i : ReqSlot) (s : State) :
    (takeRelease p port i s).notices = s.notices := by
  simp only [takeRelease, State.respond_notices]

@[simp] theorem takeRelease_port_same (p : Pos) (port : PortId) (i : ReqSlot) (s : State) :
    (takeRelease p port i s).port port = (s.port port).respond i .ok (out8 p) := by
  rw [takeRelease, State.respond_port_same, State.port_slotMap]

@[simp] theorem takeRelease_port_ne (p : Pos) (port y : PortId) (i : ReqSlot) (s : State) (h : y ≠ port) :
    (takeRelease p port i s).port y = s.port y := by
  rw [takeRelease, State.respond_port_ne _ _ _ _ _ _ h, State.port_slotMap]

/-- SLOT_RELEASE takes the oldest notice of its position on its way to the slot map (R27). -/
theorem execSlotRelease_of_finds {s : State} {p : Pos} {port : PortId} {i : ReqSlot} {ns : List Notice}
    (h : firstNotice (.record p) .slotMap s.notices = some (.slotRelease port i, ns)) :
    execSlotRelease p s = .next (takeRelease p port i { s with notices := ns }) := by
  simp only [execSlotRelease, State.takeNotice, h, Option.map_some]

/-! ### The catalogue, the sectors and the wait queue -/

theorem State.entry?_eq_some {s : State} {id : Nat} {e : Entry} (h : s.entry? id = some e) :
    e ∈ s.store.catalogue ∧ e.id = id :=
  ⟨List.mem_of_find?_eq_some h, by simpa using List.find?_some h⟩

theorem State.entry?_eq_none {s : State} {id : Nat} : s.entry? id = none ↔ ∀ e ∈ s.store.catalogue, e.id ≠ id := by
  simp [State.entry?]

theorem State.promptValid_iff {s : State} {id : Nat} :
    s.promptValid id = true ↔ ∃ e, s.entry? id = some e ∧ e.state = .valid := by
  unfold State.promptValid
  cases s.entry? id <;> simp

theorem State.storeRefusal_eq_none {s : State} : s.storeRefusal = none ↔ s.store.state = .ready := by
  unfold State.storeRefusal
  cases s.store.state <;> simp

/-- R154: an entry put in its place is one more entry of the catalogue. -/
theorem insertEntry_perm (e : Entry) (l : List Entry) : (insertEntry e l).Perm (e :: l) := by
  induction l with
  | nil => exact .refl _
  | cons x xs ih =>
    unfold insertEntry
    split
    · exact .refl _
    · exact (ih.cons x).trans (.swap e x xs)

/-- R144: a joining entry is one more entry of the queue. -/
theorem joinQueue_perm (e : QueueEntry) (l : List QueueEntry) : (joinQueue e l).Perm (e :: l) := by
  induction l with
  | nil => exact .refl _
  | cons x xs ih =>
    unfold joinQueue
    split
    · exact .refl _
    · exact (ih.cons x).trans (.swap e x xs)

/-- R153: the state of a sector once the sectors of a test have taken a state. -/
theorem State.sector_setSectors (s : State) (p : Nat → Bool) (x : SectorState) {n : Nat} (h : n < 4096) :
    (s.setSectors p x).store.sector n = if p n then x else s.store.sector n := by
  simp [State.setSectors, State.modStore, Store.sector, index?, h, markSectors]

theorem mem_entrySectors {st : Store} {e : Entry} {n : Nat} :
    n ∈ st.entrySectors e ↔ e.first ≤ n ∧ n < e.first + e.reserved ∧ st.sector n = .allocated e.id := by
  simp only [Store.entrySectors, List.mem_filter, List.mem_map, List.mem_range, decide_eq_true_eq]
  constructor
  · rintro ⟨⟨k, hk, rfl⟩, h⟩
    exact ⟨by omega, by omega, h⟩
  · rintro ⟨h1, h2, h⟩
    exact ⟨⟨n - e.first, by omega, by omega⟩, h⟩

/-! ### What the store controller's operations can change -/

theorem pumpOwed_frame (s : State) :
    pumpOwed s = { s with store := (pumpOwed s).store, arbiter := (pumpOwed s).arbiter } := by
  unfold pumpOwed
  split
  · rfl
  · split <;> rfl

theorem pumpStep_frame (s : State) :
    pumpStep s = { s with store := (pumpStep s).store, arbiter := (pumpStep s).arbiter } := by
  unfold pumpStep
  split
  · rfl
  · split
    · rfl
    · split <;> rfl

theorem pumpErase_frame (s : State) : pumpErase s = { s with arbiter := (pumpErase s).arbiter } := by
  unfold pumpErase
  split
  · split <;> rfl
  · rfl

/-- R165: what the erase list's turn at the job queue does: its next sector becomes an ERASE job at the tail, or nothing. -/
theorem pumpErase_eq (s : State) :
    pumpErase s =
      if s.jobRoom = true ∧ s.arbiter.erase = none ∧ s.arbiter.jobs.any Job.isErase = false then
        (s.nextErase.map (fun n => s.queueJob (.erase n))).getD s
      else s := by
  unfold pumpErase
  cases s.nextErase <;> rfl

/-- R165, R175, R177: what takes the free places of the job queue changes only the store controller's tables and the
arbiter. -/
theorem pump_frame (s : State) : pump s = { s with store := (pump s).store, arbiter := (pump s).arbiter } := by
  unfold pump
  rw [pumpErase_frame, pumpStep_frame, pumpOwed_frame]

/-- R165: what joins the erase list changes only the store controller's tables and the events raised. -/
theorem joinErase_frame (r : Run) (s : State) :
    joinErase r s = { s with store := (joinErase r s).store, raised := (joinErase r s).raised } := by
  have h : ∀ (u : State) p x, u.setSectors p x = { u with store := (u.setSectors p x).store } := fun _ _ _ => rfl
  unfold joinErase
  simp only []
  rw [h]
  generalize (s.setSectors (fun n => r.todo.contains n) .erasing).store = y
  split
  · unfold finishRun
    simp only []
    rw [h]
    generalize (State.setSectors _ _ _).store = z
    split <;> rfl
  · rfl

/-- R168: the deferred erase changes only the store controller's tables, the arbiter and the events raised. -/
theorem maybeErase_frame (id : Nat) (s : State) :
    maybeErase id s = { s with store := (maybeErase id s).store, arbiter := (maybeErase id s).arbiter,
                               raised := (maybeErase id s).raised } := by
  unfold maybeErase
  split
  · rfl
  · split
    · simp only []
      rw [pump_frame]
      simp only [State.modStore]
      rw [joinErase_frame]
    · rfl

/-- R177: the end of a load changes only the store controller's tables, the arbiter and the events raised. -/
theorem failLoad_frame (x : Session) (cause : LoadCause) (sector : Option Nat) (s : State) :
    failLoad x cause sector s =
      { s with store := (failLoad x cause sector s).store, arbiter := (failLoad x cause sector s).arbiter,
               raised := (failLoad x cause sector s).raised } := by
  unfold failLoad
  simp only []
  rw [pump_frame]
  rfl

/-! ### What the player unit's operations can change -/

theorem letGo_frame (k : PlayerNo) (s : State) : letGo k s = { s with notices := (letGo k s).notices } := by
  unfold letGo
  split <;> rfl

/-- R147: a release changes only the player unit's tables and the notices on their way. -/
theorem releasePlayer_frame (k : PlayerNo) (s : State) :
    releasePlayer k s =
      { s with playerUnit := (releasePlayer k s).playerUnit, notices := (releasePlayer k s).notices } := by
  unfold releasePlayer
  rw [letGo_frame]
  rfl

/-- R141: a stop changes only the player unit's tables and the notices on their way. -/
theorem stopPlayer_frame (k : PlayerNo) (s : State) :
    stopPlayer k s = { s with playerUnit := (stopPlayer k s).playerUnit, notices := (stopPlayer k s).notices } := by
  unfold stopPlayer
  split
  · rfl
  · rw [letGo_frame]
    rfl

theorem grantPlayer_frame (k : PlayerNo) (e : QueueEntry) (s : State) :
    grantPlayer k e s =
      { s with playerUnit := (grantPlayer k e s).playerUnit, notices := (grantPlayer k e s).notices } := by
  unfold grantPlayer
  split <;> rfl

theorem grantHead_frame (k : PlayerNo) (s : State) :
    grantHead k s = { s with playerUnit := (grantHead k s).playerUnit, notices := (grantHead k s).notices } := by
  unfold grantHead
  split
  · rfl
  · rw [grantPlayer_frame]
    rfl

/-- R146: the allocator's grants change only the player unit's tables and the notices on their way. -/
theorem grantAll_frame (s : State) :
    grantAll s = { s with playerUnit := (grantAll s).playerUnit, notices := (grantAll s).notices } := by
  suffices H : ∀ (l : List PlayerNo) (t : State),
      t = { s with playerUnit := t.playerUnit, notices := t.notices } →
      let u := l.foldl (fun s k => if (s.player k).idlePool then grantHead k s else s) t
      u = { s with playerUnit := u.playerUnit, notices := u.notices } from H allPlayers s rfl
  intro l
  induction l with
  | nil => exact fun t h => h
  | cons k l ih =>
    intro t h
    apply ih
    beta_reduce
    split
    · rw [grantHead_frame]
      generalize (grantHead k t).playerUnit = u
      generalize (grantHead k t).notices = n
      rw [h]
    · exact h

end Sys2Proof.Machine
end

