-- ==== Sys2Proof/WellFormed.lean ====
section
/-!
DEFINITION. The commands the world outside can bring: an operand that stands for something measured or left by the outside
lies within what that something can be. Every operand whose type already bounds it (a position, a slot, a player) needs no
check.
-/

namespace Sys2Proof

/-- R32: a misplaced pulse is 1 to 511 bit clocks away from the expected instant it displaces (a sample period has 512). -/
def misplacementFits (bits : Nat) : Bool := decide (1 ≤ bits ∧ bits ≤ 511)

/-- R152: what an erase may leave behind lies within its sector. -/
def sectorBytesFit (bytes : List Byte) : Bool := decide (bytes.length ≤ 4096)

/-- R152: what a program may leave behind lies within its page. -/
def pageBytesFit (bytes : List Byte) : Bool := decide (bytes.length ≤ 256)

/-- R180: the first byte of a transaction that is neither a write nor a read. -/
def namesNoKind (bytes : List Byte) : Bool := decide (bytes.headD 0 ≠ 1 ∧ bytes.headD 0 ≠ 2)

/-- R180: a select that rises early leaves fewer than three bytes clocked after the message, which ends with its length field
where it is malformed. -/
def answerCutShort : List Byte → Bool
  | kind :: _ :: hi :: lo :: rest =>
    let length := hi.toNat * 256 + lo.toNat
    decide (rest.length < (if kind ≠ 1 ∨ length = 0 ∨ 511 < length then 0 else length) + 3)
  | _ => true

/-- The command is one the world can bring. -/
def Instr.wellFormed : Instr → Bool
  | .reset _ torn => sectorBytesFit torn
  | .ignoredTransaction _ bytes => namesNoKind bytes
  | .misplacedSync _ bits _ => misplacementFits bits
  | .eraseSuspend left => sectorBytesFit left
  | .programDone left => pageBytesFit left
  | .programTimeout left => pageBytesFit left
  | .eraseTimeout left => sectorBytesFit left
  | .transactionAborted _ msg => answerCutShort msg
  | .portWrite .. | .portRead .. | .unknownRequest .. => true
  | .bindCall .. | .hold .. | .setHold .. | .unhold .. | .clear .. | .setMute .. | .setPosition .. => true
  | .setEcho .. | .setSuppressor .. | .setLink .. | .linkEnable .. | .linkDisable .. | .linkRetrain .. => true
  | .whisper .. | .cancelWhisper .. | .setCoachSource .. | .attachCoach .. | .setCoachMode .. | .detachCoach .. => true
  | .setMusic .. | .stopMusic .. | .releaseMusic .. => true
  | .loadOpen .. | .loadData .. | .loadCommit .. | .loadAbandon .. | .retirePrompt .. => true
  | .queryPosition .. | .queryPlayer .. | .queryPrompt .. | .listPrompts .. | .storeStatus .. | .identify .. => true
  | .readStore .. | .readNext .. | .setCharter .. | .subscribe .. | .eventOffer .. => true
  | .syncPulse .. | .syncMiss .. | .syncLost | .syncRestored .. | .frameBoundary | .slotRelease .. => true
  | .upstreamFrame .. | .downstreamFrame .. | .presenceSample .. | .presenceSenseChange .. | .negotiationStart .. => true
  | .attemptTimeout .. | .errorWindowRenew .. | .linkCallStarted .. | .linkCallEnded .. | .absenceGraceNotice .. => true
  | .absenceTimeout .. | .absenceExpiry .. | .returnNotice .. | .muteButtonEdge .. | .whisperGrantedNotice .. => true
  | .whisperEndNotice .. | .announceGrantedNotice .. | .announceEndNotice .. | .subscriptionRefused .. => true
  | .announceDueNotice .. | .attachClaim .. | .detachNotice .. | .attachAccept .. | .attachRefusal .. => true
  | .coachCallStarted .. | .coachCallEnded .. | .coachFrame => true
  | .echoCallStarted .. | .echoCallEnded .. | .echoPresenceLost .. | .echoFrame => true
  | .suppCallStarted .. | .suppCallEnded .. | .suppPresenceLost .. | .lanesNotice .. | .mixStateChange .. | .mixFrame => true
  | .holdStart .. | .holdChange .. | .holdStop .. | .holdFrame | .holdLimit .. | .announceDue .. => true
  | .whisperRequest .. | .announceRequest .. | .whisperCancel .. | .announceEnd .. | .subscription .. => true
  | .unsubscription .. | .playerClearRelease .. | .whisperLimitNotice .. | .retireNotice | .storeFaultNotice => true
  | .fetchDelivery | .playerFrame | .whisperCut .. | .connectWaitLimit .. => true
  | .statusReady | .startTimeout | .stuckTimeout | .scanRead | .arbiterStart | .storeReadDone | .eraseDone => true
  | .loadIdleTimeout | .takeUp | .letGo | .entryJoined | .entryLeft | .retireAck | .flashReadyAfterTimeout => true

end Sys2Proof
end

