-- ==== Sys2Proof/Tests/Slice0.lean ====
section
/-!
SUPPORT. Tests: ill-formed commands refused, the manual's worked numbers, and for every statement with hypotheses a state
and operands that meet them.
-/

namespace Sys2Proof.Tests

open Sys2Proof.Machine

-- The tests are checked one after another: at once, their threads would ask for more memory than check.sh gives.
set_option Elab.async false

/-! ### Ill-formed commands -/

theorem test_misplacement_of_a_whole_period_is_ill_formed (rx : RxPeriod) :
    (Instr.misplacedSync true 512 rx).wellFormed = false ∧ (Instr.misplacedSync false 0 rx).wellFormed = false ∧
      (Instr.misplacedSync true 511 rx).wellFormed = true := ⟨rfl, rfl, rfl⟩

theorem test_more_than_a_sector_is_ill_formed :
    (Instr.eraseTimeout (List.replicate 4097 0)).wellFormed = false ∧
      (Instr.eraseSuspend (List.replicate 4097 0)).wellFormed = false ∧
      (Instr.reset .pin (List.replicate 4097 0)).wellFormed = false := by
  decide +kernel

theorem test_more_than_a_page_is_ill_formed :
    (Instr.programDone (List.replicate 257 0)).wellFormed = false ∧
      (Instr.programTimeout (List.replicate 257 0)).wellFormed = false := by
  decide +kernel

theorem test_a_write_is_no_ignored_transaction :
    (Instr.ignoredTransaction .a [1, 1]).wellFormed = false ∧ (Instr.ignoredTransaction .b [2]).wellFormed = false ∧
      (Instr.ignoredTransaction .a [3]).wellFormed = true := by decide

/-! ### Worked numbers of the manual -/

/-- 08_prompt_players.md, section 8.2. -/
theorem test_log_eight_examples : logSample 0xB5 = -1344 ∧ logSample 0x4F = 3968 ∧ logSample 0x80 = 0 := by decide

/-- 03_the_station_link.md, "Example: computing a check": mic 0x1234, status 0xB, check 5; with status 0x9 it fails. -/
theorem test_link_check_example :
    upGood 0x1234B5 = true ∧ upGood 0x123495 = false ∧ upMic 0x1234B5 = 0x1234 ∧ upAck 0x1234B5 = true ∧
      upOffer 0x1234B5 = 2 ∧ upMuteEdge 0x1234B5 = false ∧ upPresent 0x1234B5 = true := by decide

/-- 04_echo_cancellers_and_the_tap_pool.md, "Worked example: one NLMS step and the next", for tap 5 alone in a power of
1 000 000 with the 64 taps' regularisation: the factors and the updates. -/
theorem test_nlms_example :
    truncDiv (500 * 2 ^ 29) (1000000 + 1024 * 64) = 251925 ∧ roundDiv (251925 * 1000) 256 = 984082 ∧
      roundDiv (984082 * 1000) (2 ^ 22) = 235 ∧ truncDiv (265 * 2 ^ 29) 1065536 = 133520 ∧
      984082 + roundDiv (133520 * 1000) 256 = 1505645 ∧ roundDiv (1505645 * 1000) (2 ^ 22) = 359 := by decide +kernel

/-- 05_suppression_comfort_noise_and_the_mixes.md, "Worked example: a suppressor frame and the engagement of NLP". -/
theorem test_suppressor_example :
    (let r : SuppRec := { SuppRec.reset 5 with noiseFloor := 10000 }
     r.target 40000 = 8192 ∧ r.cnAmplitude = 22 ∧ r.cnRegister = 0x1005 ∧ trackFloor 10000 12000 = 10156 ∧
       trackFloor 10000 9000 = 9000) ∧
      applyGain 1000 (ramp 16384 8192 0) = 992 ∧ applyGain 1000 (ramp 16384 8192 63) = 500 ∧
      (cnSamples 22 3 0x1005).2 = [6, 11, -22] ∧
      crossfade 16384 0 0 16384 [500, 500, 500] [6, 11, -22] = [492, 485, 476] := by decide +kernel

/-- 10_loading_and_reading_prompts.md, "Worked example: loading a short prompt": 8064 bytes need two sectors, 364 one; and
R172: 0 needs 1 and 4 194 240 needs 1024. -/
theorem test_sectors_example :
    sectorsFor 8000 = 2 ∧ sectorsFor 300 = 1 ∧ sectorsFor 0 = 1 ∧ sectorsFor 4194240 = 1024 ∧ pageBoundary 0 = 192 ∧
      pageBoundary 191 = 192 ∧ pageBoundary 192 = 448 := by decide +kernel

/-- R181, R182: the header of a response and the code of a request. -/
theorem test_message_examples :
    responseMessage { tag := 9, code := 5, status := .unknown, payload := [3] } = [2, 9, 0, 3, 5, 15, 3] ∧
      codeOf 1 = some .bindCall ∧ codeOf 37 = some .subscribe ∧ codeOf 38 = none ∧ codeOf 0 = none := by decide +kernel

/-- No row of the command table gives bits. -/
theorem test_no_word_spells_a_command (nbits w : Nat) : State.reset.withFetchWord nbits w = State.reset := rfl

/-! ### States for the witnesses -/

/-- Slot 0 of Port A holds a request that the port controller has carried, and nothing else waits. -/
def ask (code : Byte) (payload : List Byte) (s : State) : State :=
  { s with portA := { s.portA with slots := put s.portA.slots 0 (.request 7 code payload true), intake := [0] } }

/-- One notice is on its way. -/
def told (src dst : Block) (t : Tidings) (s : State) : State :=
  { s with notices := [{ src := src, dst := dst, tidings := t }] }

/-- Position 0 of the reset state, changed. -/
def with0 (f : PosRec → PosRec) : State := State.reset.modPos 0 f

/-- Position 0 in a call. -/
def talking : State :=
  with0 (fun r => { r with callState := .talk, callSerial := 1, rxSlot := some 3, txSlot := some 4 })

/-- Position 0 on hold, with its sequencer record counting. -/
def holding : State :=
  (talking.modPos 0 (fun r => { r with callState := .held, holdCause := some .command, holdNumber := 1 })).modSeq 0
    (fun r => { r with counting := true, elapsed := 9, holdNumber := 1, callSerial := 1 })

/-- Position 0 before its connect whisper has ended. -/
def whispered : State :=
  talking.modPos 0 (fun r =>
    { r with callState := .preconnect, whisper := some { kind := .connect, prompt := 5, number := 1, status := .queued } })

/-- A VALID prompt of 100 bytes in sector 0. -/
def prompt5 : Entry :=
  { id := 5, state := .valid, first := 0, reserved := 1, final := some 1, length := some 100, level := some 16384,
    loopPoint := none, label := none, playerRefs := 0, musicRefs := 0, queueRefs := 0, retireAcked := false, mark := none }

/-- A READY store that holds prompt 5, changed. -/
def stocked (f : Entry → Entry) (s : State) : State :=
  { s with store := { s.store with state := .ready, catalogue := [f prompt5],
                                   sectors := put s.store.sectors 0 (.allocated 5) } }

/-- Player 0 plays prompt 5 as music, with a full buffer and no position subscribed. -/
def musical (s : State) : State :=
  s.modPlayer 0 (fun x =>
    { x with role := .music, state := .playing, prompt := some 5, length := 100, buffer := List.replicate 256 0x10,
             level := 9 })

/-- Every player serves a position with prompt 5. -/
def busyPool (s : State) : State :=
  { s with playerUnit := { s.playerUnit with players := Vector.replicate 6 { Player.reset with
      state := .priming, prompt := some 5, length := 6400
      assignment := some { position := 0, serial := 1, kind := .recorded, number := 1 } } } }

/-- A link record of position 0, changed. -/
def linked (f : LinkRec → LinkRec) : State := State.reset.modLink 0 f

/-- The highway in sync, changed. -/
def synced (f : Highway → Highway) : State := { State.reset with highway := f { Highway.reset with sync := .inSync } }

/-- A load session of Port A on prompt 9 in sector 1. -/
def session9 : Session := Session.opened .a 9 1 1 4000

/-- A READY store with a load session, changed. -/
def loading (f : Session → Session) : State :=
  { State.reset with store := { Store.reset with
      state := .ready, session := some (f session9), catalogue := [Entry.opened 9 1 1],
      sectors := put Store.reset.sectors 1 (.allocated 9) } }

/-- The job queue is full. -/
def crowded (s : State) : State :=
  { s with arbiter := { s.arbiter with jobs := List.replicate 16 (.program 0 [0] (.marker 200)) } }

/-- The arbiter's operation in progress. -/
def doing (op : ArbOp) (s : State) : State := { s with arbiter := { s.arbiter with current := some op } }

/-- An erase of sector 7 in progress, with a run at the head of the erase list. -/
def erasing (micros : Nat) (todo : List Nat) : State :=
  { State.reset with
    arbiter := { Arbiter.reset with erase := some { sector := 7, micros := micros, suspended := false } }
    store := { Store.reset with
      state := .ready
      eraseList := [{ todo := todo, erased := [8], bad := 0, id := some 5, mark := some .done }] } }

/-! ### Ports -/

theorem test_step_witness : ({ State.reset with pending := [.coachFrame] } : State).pending = .coachFrame :: [] ∧
    State.reset.pending = [] := by constructorm* _ ∧ _ <;> rfl

/-- Port A has a request in each slot. -/
def full : State :=
  { State.reset with portA := { State.reset.portA with
      slots := Vector.replicate 4 (.request 1 28 [0] false), intake := [0, 1, 2, 3] } }

theorem test_write_witness :
    (∀ j : ReqSlot, look full.portA.slots j ≠ .empty) ∧ look State.reset.portA.slots 0 = .empty ∧
      (∀ j : ReqSlot, j.val < 0 → look State.reset.portA.slots j ≠ .empty) ∧
      (List.replicate 510 (0 : Byte)).length ≤ 510 ∧ (0x02 : Byte) ≠ 0x01 ∧ (2 : Byte).toNat * 256 + (0 : Byte).toNat > 511 ∧
      ([5] : List Byte).length < (0 : Byte).toNat * 256 + (2 : Byte).toNat ∧ ([3] : List Byte).headD 0 ≠ 0x01 ∧
      ([3] : List Byte).headD 0 ≠ 0x02 := by
  decide +kernel

/-- Port A has a response in slot 0. -/
def answering : State :=
  { State.reset with portA := { State.reset.portA with
      slots := put State.reset.portA.slots 0 (.response { tag := 7, code := 1, status := .ok, payload := [] })
      answered := [0] } }

theorem test_read_witness :
    (answering.port .a).answered = [0] ∧
      look (answering.port .a).slots 0 = .response { tag := 7, code := 1, status := .ok, payload := [] } ∧
      (State.reset.port .b).answered = [] ∧
      (State.reset.port .b).events = [{ seq := 0, stamp := 0, event := .restart .powerOn }] ∧
      (full.setPort .a { full.portA with events := [] }).portA.events = [] ∧
      (State.reset.port .b).outbound.length ≤ 12 ∧
      (State.reset.port .b).answered.length + (State.reset.port .b).events.length = 1 := by
  constructorm* _ ∧ _ <;> first | rfl | decide

/-- A request that the port controller has still to check stands in slot 0 of Port A. -/
def asking (code : Byte) (payload : List Byte) : Port :=
  { State.reset.portA with slots := put State.reset.portA.slots 0 (.request 7 code payload false), intake := [0] }

theorem test_controller_witness :
    look (asking 14 [0, 5]).slots 0 = .request 7 14 [0, 5] false ∧ codeOf 14 = some .whisper ∧
      (asking 14 [0, 5]).reaches 0 = true ∧ (asking 14 [0, 5]).charter.allows .whisper = false ∧
      payloadFits .hold [0] = false ∧ (asking 2 [0]).charter.allows .hold = true ∧
      look (asking 2 [0]).slots 0 = .request 7 2 [0] false ∧
      (asking 2 [0]).admission 0 .hold = .refused .range ∧ (asking 14 [0, 5]).admission 0 .whisper = .refused .charter ∧
      State.reset.portA.admission 0 .hold = .wait ∧ requestOf? (.hold .a 0) = some (.a, 0, .hold) ∧
      look (asking 38 []).slots 0 = .request 7 38 [] false ∧ 37 < (38 : Byte).toNat ∧ (asking 38 []).reaches 0 = true := by
  constructorm* _ ∧ _ <;> first | rfl | decide

theorem test_charter_and_subscription_witness :
    (ask 36 [3] State.reset).admits .a 0 .setCharter [3] ∧ (ask 36 [16] State.reset).admits .a 0 .setCharter [16] ∧
      (ask 36 [8] State.reset).admits .a 0 .setCharter [8] ∧ State.reset.portB.charter.store = true ∧
      (ask 37 [1, 0] State.reset).admits .a 0 .subscribe [1, 0] ∧
      (ask 37 [64, 0] State.reset).admits .a 0 .subscribe [64, 0] := by
  constructorm* _ ∧ _ <;> rfl

/-- An event queue of so many events, with its overflow flag. -/
def queued (n : Nat) (overflow : Bool) : Port :=
  { State.reset.portA with
    events := List.replicate n { seq := 0, stamp := 0, event := .syncLost }, overflow := overflow }

theorem test_offer_witness :
    32 ≤ (queued 32 false).events.length ∧ (queued 31 false).events.length < 32 ∧ (queued 30 true).events.length < 31 ∧
      (queued 31 true).events.length = 31 ∧ (queued 31 true).overflow = true ∧
      (State.reset.raise .highway .syncLost).raised = [] ++ { src := .highway, stamp := 0, event := .syncLost } :: [] := by
  constructorm* _ ∧ _ <;> first | rfl | decide

theorem test_queries_witness :
    (ask 28 [0] State.reset).admits .a 0 .queryPosition [byte 0] ∧
      (ask 29 [5] State.reset).admits .a 0 .queryPlayer [byte 5] ∧
      (ask 30 [5] (stocked id State.reset)).admits .a 0 .queryPrompt [5] ∧
      (stocked id State.reset).store.state = .ready ∧ (stocked id State.reset).entry? 5 = some prompt5 ∧
      (ask 31 [1] (stocked id State.reset)).admits .a 0 .listPrompts [1] ∧
      (ask 32 [] State.reset).admits .a 0 .storeStatus [] ∧ (ask 33 [] State.reset).admits .a 0 .identify [] := by
  constructorm* _ ∧ _ <;> rfl

/-! ### Positions -/

theorem test_bindCall_witness :
    (ask 1 [0, 3, 4, 0, 0] State.reset).admits .a 0 .bindCall
        ([byte 0, byte 3, byte 4] ++ outOpt (fun w => [w]) none ++ outOpt outFin (none : Option PlayerNo)) ∧
      (State.reset.pos 0).callState = .idle ∧
      (ask 1 [0, 3, 4, 1, 5, 1, 0] (musical (stocked id State.reset))).admits .a 0 .bindCall
        ([byte 0, byte 3, byte 4] ++ outOpt (fun w => [w]) (some 5) ++ outOpt outFin (some (0 : PlayerNo))) ∧
      (musical (stocked id State.reset)).promptValid 5 = true ∧
      ((musical (stocked id State.reset)).player 0).role = .music ∧
      look ({ State.reset with slotMap := State.reset.slotMap.bindCall 1 3 5 } : State).slotMap.rx 3 ≠ .unbound := by
  constructorm* _ ∧ _ <;> first | rfl | decide

theorem test_bindCallChecks_witness :
    parseBindCall [16, 3, 4, 0, 0] = some ⟨16, 3, 4, none, none⟩ ∧ (talking.pos 0).callState ≠ .idle ∧
      parseBindCall [0, 32, 4, 0, 0] = some ⟨0, 32, 4, none, none⟩ ∧
      parseBindCall [0, 3, 4, 1, 5, 0] = some ⟨0, 3, 4, some 5, none⟩ ∧ State.reset.promptValid 5 = false ∧
      parseBindCall [0, 3, 4, 1, 5, 1, 0] = some ⟨0, 3, 4, some 5, some 0⟩ ∧ (State.reset.player 0).role ≠ .music ∧
      (ask 1 [16, 3, 4, 0, 0] State.reset).admits .a 0 .bindCall [16, 3, 4, 0, 0] := by
  constructorm* _ ∧ _ <;> first | rfl | decide

/-- The fields of a HOLD of position 0 without player and announcement. -/
def holdBytes : List Byte := [0, 0, 0, 0, 60, 0, 0, 0]

theorem test_holds_witness :
    (ask 2 holdBytes talking).admits .a 0 .hold holdBytes ∧ (ask 3 holdBytes talking).admits .a 0 .setHold holdBytes ∧
      (ask 2 holdBytes holding).admits .a 0 .hold holdBytes ∧ (ask 3 holdBytes holding).admits .a 0 .setHold holdBytes ∧
      parseHold holdBytes = some ⟨0, none, none, 60, 0, 0⟩ ∧
      holdChecked ⟨0, none, none, 60, 0, 0⟩ talking = .ok (none, false) ∧ (talking.pos 0).callState = .talk ∧
      (holding.pos 0).callState = .held ∧ (State.reset.player 0).role ≠ .music ∧
      ¬((9 : Nat) = 0 ∨ (10 ≤ (9 : Nat) ∧ (9 : Nat) ≤ 7200)) ∧ (10 ≤ (7200 : Nat) ∧ (7200 : Nat) ≤ 7200) := by
  constructorm* _ ∧ _ <;> first | rfl | decide

theorem test_unhold_and_clear_witness :
    (ask 4 [0] holding).admits .a 0 .unhold [byte 0] ∧ (holding.pos 0).callState = .held ∧
      (ask 5 [0] talking).admits .a 0 .clear [byte 0] ∧ (talking.pos 0).callState ≠ .idle ∧
      (told (.record 0) .slotMap (.slotRelease .a 0) State.reset).finds (.record 0) .slotMap (.slotRelease .a 0) [] := by
  constructorm* _ ∧ _ <;> first | rfl | decide

theorem test_mute_witness :
    (ask 6 [0, 1] State.reset).admits .a 0 .setMute [byte 0, if true then 1 else 0] ∧
      (told (.link 0) (.record 0) .muteEdge State.reset).finds (.link 0) (.record 0) .muteEdge [] := by
  constructorm* _ ∧ _ <;> rfl

/-- Position 0 on hold for its absent agent. -/
def absent : State :=
  talking.modPos 0 (fun r => { r with callState := .held, holdCause := some .agentAbsent, agentAbsent := true })

theorem test_absence_witness :
    (told (.link 0) (.record 0) (.absenceExpiry 1) talking).finds (.link 0) (.record 0) (.absenceExpiry 1) [] ∧
      (talking.pos 0).callState ≠ .idle ∧ (talking.pos 0).callSerial = 1 ∧ (talking.pos 0).agentAbsent = false ∧
      (told (.link 0) (.record 0) (.linkReturn 1) absent).finds (.link 0) (.record 0) (.linkReturn 1) [] ∧
      (absent.pos 0).callState ≠ .idle ∧ (absent.pos 0).callSerial = 1 ∧ (absent.pos 0).agentAbsent = true := by
  constructorm* _ ∧ _ <;> first | rfl | decide

theorem test_stale_witness :
    (State.reset.pos 0).callState = .idle ∧ (talking.pos 0).callSerial ≠ 2 ∧
      (told (.link 0) (.record 0) (.absenceExpiry 2) talking).finds (.link 0) (.record 0) (.absenceExpiry 2) [] ∧
      (told (.link 0) (.record 0) (.linkReturn 2) talking).finds (.link 0) (.record 0) (.linkReturn 2) [] ∧
      (told .player (.record 0) (.whisperGranted 2 1 0) talking).finds .player (.record 0) (.whisperGranted 2 1 0) [] ∧
      (told .player (.record 0) (.whisperOver 2 1 .ended) talking).finds .player (.record 0) (.whisperOver 2 1 .ended) [] ∧
      (told .player (.record 0) (.announceGranted 2 1 0) talking).finds .player (.record 0) (.announceGranted 2 1 0) [] ∧
      (told .player (.record 0) (.announceOver 2 1) talking).finds .player (.record 0) (.announceOver 2 1) [] ∧
      (told .player (.record 0) (.subscriptionRefused 2 0) talking).finds .player (.record 0)
        (.subscriptionRefused 2 0) [] := by
  constructorm* _ ∧ _ <;> first | rfl | decide

theorem test_connectWhisper_witness :
    (told .player (.record 0) (.whisperOver 1 1 .ended) whispered).finds .player (.record 0) (.whisperOver 1 1 .ended) [] ∧
      (whispered.pos 0).callState = .preconnect ∧ (whispered.pos 0).callSerial = 1 ∧
      (whispered.pos 0).whisper = some { kind := .connect, prompt := 5, number := 1, status := .queued } := by
  constructorm* _ ∧ _ <;> rfl

/-- The fields of a SET_POSITION of position 0 that carries absence_grace 5001, or whisper_limit 60. -/
def graceBytes : List Byte := [0, 0, 0, 0, 0, 1, 0x13, 0x89, 0, 0, 0, 0]
def limitBytes : List Byte := [0, 0, 0, 0, 0, 0, 0, 0, 1, 60, 0]

theorem test_setPosition_witness :
    (ask 7 graceBytes State.reset).admits .a 0 .setPosition graceBytes ∧
      parseSetPosition graceBytes = some ⟨0, none, none, none, none, some 5001, none, none, none, none⟩ ∧
      (ask 7 limitBytes State.reset).admits .a 0 .setPosition limitBytes ∧
      parseSetPosition limitBytes = some ⟨0, none, none, none, none, none, none, none, some 60, none⟩ ∧
      (SetPositionArgs.checked ⟨0, none, none, none, none, none, none, none, some 60, none⟩).isSome = true := by
  constructorm* _ ∧ _ <;> rfl

/-! ### Whispers, announcements and coaching -/

theorem test_whispers_witness :
    (ask 14 [0, 5] State.reset).admits .a 0 .whisper [byte 0, 5] ∧ (State.reset.pos 0).callState ≠ .talk ∧
      (ask 14 [0, 5] (stocked id talking)).admits .a 0 .whisper [byte 0, 5] ∧ (talking.pos 0).callState = .talk ∧
      (stocked id talking).promptValid 5 = true ∧ talking.promptValid 5 = false ∧ (talking.pos 0).whisper = none ∧
      (ask 15 [0] whispered).admits .a 0 .cancelWhisper [byte 0] ∧ (whispered.pos 0).whisper.isSome = true ∧
      (ask 15 [0] talking).admits .a 0 .cancelWhisper [byte 0] ∧
      (ask 15 [0] (talking.modPos 0 (fun r =>
        { r with whisper := some { kind := .recorded, prompt := 5, number := 2, status := .queued } }))).admits .a 0
          .cancelWhisper [byte 0] := by
  constructorm* _ ∧ _ <;> first | rfl | decide

/-- Position 0 on hold with an announcement and a recorded whisper waiting. -/
def busyHold : State :=
  holding.modPos 0 (fun r =>
    { r with announcement := some { prompt := 5, number := 3, status := .queued }
             whisper := some { kind := .recorded, prompt := 5, number := 2, status := .queued } })

theorem test_playerNotices_witness :
    (busyHold.pos 0).callState ≠ .idle ∧ (busyHold.pos 0).callSerial = 1 ∧
      (told .player (.record 0) (.whisperGranted 1 2 4) busyHold).finds .player (.record 0) (.whisperGranted 1 2 4) [] ∧
      (told .player (.record 0) (.whisperOver 1 2 .cut) busyHold).finds .player (.record 0) (.whisperOver 1 2 .cut) [] ∧
      (told .player (.record 0) (.announceGranted 1 3 4) busyHold).finds .player (.record 0) (.announceGranted 1 3 4) [] ∧
      (told .player (.record 0) (.announceOver 1 3) busyHold).finds .player (.record 0) (.announceOver 1 3) [] ∧
      (told .player (.record 0) (.subscriptionRefused 1 4) busyHold).finds .player (.record 0)
        (.subscriptionRefused 1 4) [] ∧
      (told .seq (.record 0) (.announceDue 1 1 250) busyHold).finds .seq (.record 0) (.announceDue 1 1 250) [] ∧
      (holding.pos 0).announcement = none ∧ (holding.pos 0).announcePrompt = none ∧ (holding.pos 0).holdNumber = 1 ∧
      (told .seq (.record 0) (.announceDue 1 1 250) (stocked id holding)).finds .seq (.record 0) (.announceDue 1 1 250) [] ∧
      (stocked id holding).promptValid 5 = true := by
  constructorm* _ ∧ _ <;> first | rfl | decide

/-- Coach source 0, changed. -/
def coached (f : CoachRec → CoachRec) : State := State.reset.modSource 0 f

/-- Coach source 0 with a receive slot, attached to position 0. -/
def attached : State :=
  coached (fun r => { r with rxSlot := some 9, attachment := .attached, position := some 0, callSerial := 1 })

/-- Coach source 0 with a receive slot, its ATTACH_COACH unanswered. -/
def pendingCoach : State :=
  coached (fun r =>
    { r with rxSlot := some 9, attachment := .pending, position := some 0
             attaching := some { port := .a, slot := 0, mode := .coach } })

theorem test_coachSources_witness :
    (ask 16 [0, 1, 9, 0] State.reset).admits .a 0 .setCoachSource
        (byte 0 :: outOpt outFin (some (9 : Timeslot)) ++ outOpt outFin (none : Option Timeslot)) ∧
      (State.reset.source 0).attachment = .unattached ∧ (attached.source 0).attachment ≠ .unattached ∧
      look State.reset.slotMap.rx 9 = .unbound ∧
      (ask 18 [0, 1, 2, 0] attached).admits .a 0 .setCoachMode
        (byte 0 :: outOpt outCoachMode (some .barge) ++ outOpt (fun l : BitVec 16 => out16 l.toNat) none) ∧
      (ask 17 [0, 0, 1] (coached (fun r => { r with rxSlot := some 9 }))).admits .a 0 .attachCoach
        (byte 0 :: byte 0 :: outCoachMode .coach) ∧
      ((coached (fun r => { r with rxSlot := some 9 })).source 0).rxSlot.isSome = true ∧
      (told .coach (.record 0) (.attachClaim 0) talking).finds .coach (.record 0) (.attachClaim 0) [] ∧
      (told (.record 0) .coach (.attachAccept 0) pendingCoach).finds (.record 0) .coach (.attachAccept 0) [] ∧
      (pendingCoach.source 0).attaching = some { port := .a, slot := 0, mode := .coach } ∧
      (told (.record 0) .coach (.attachRefusal 0 .state) pendingCoach).finds (.record 0) .coach (.attachRefusal 0 .state) [] ∧
      (ask 19 [0] attached).admits .a 0 .detachCoach [byte 0] ∧ (attached.source 0).position = some 0 ∧
      (pendingCoach.source 0).attachment = .pending ∧
      (told .coach (.record 0) (.detach 0 1) talking).finds .coach (.record 0) (.detach 0 1) [] ∧
      (told (.record 0) .coach (.callStarted 1 500) State.reset).finds (.record 0) .coach (.callStarted 1 500) [] ∧
      (told (.record 0) .coach .callEnded attached).finds (.record 0) .coach .callEnded [] := by
  constructorm* _ ∧ _ <;> first | rfl | decide

/-- Every block that counts frames has a boundary to take. -/
def due (s : State) : State :=
  { s with bus := { s.bus with echoDue := true, coachDue := true, playerDue := true, holdDue := true, mixDue := true } }

theorem test_frames_due_witness :
    (due State.reset).bus.coachDue = true ∧ (due holding).bus.holdDue = true ∧
      ((holding.modSeq 0 (fun r => { r with limit := some 10, nextAnnounce := some 10 })).seq 0).counting = true ∧
      (due State.reset).bus.playerDue = true ∧ (due State.reset).bus.echoDue = true ∧
      ({ State.reset with bus := { State.reset.bus with mixDue := true } } : State).bus.mixDue = true ∧
      State.reset.bus.echoDue = false ∧ State.reset.bus.coachDue = false ∧ State.reset.bus.playerDue = false := by
  constructorm* _ ∧ _ <;> rfl

/-- What a hold-start carries. -/
def notice1 : HoldNotice :=
  { serial := 1, holdNumber := 1, announceOn := true, interval := 4, atStart := true, limit := 10 }

theorem test_holdSequencer_witness :
    (told (.record 0) .seq (.holdStart notice1) State.reset).finds (.record 0) .seq (.holdStart notice1) [] ∧
      (told (.record 0) .seq (.holdChange notice1) holding).finds (.record 0) .seq (.holdChange notice1) [] ∧
      (told (.record 0) .seq (.holdStop 1 false) holding).finds (.record 0) .seq (.holdStop 1 false) [] ∧
      (holding.seq 0).counting = true ∧ (holding.seq 0).holdNumber = 1 := by
  constructorm* _ ∧ _ <;> rfl

/-! ### Players -/

/-- A request for prompt 5 as it waits. -/
def entry1 (kind : OneShot) (waitLimit : Nat) : QueueEntry :=
  { kind := kind, position := 0, serial := 1, number := 1, prompt := 5, waitLimit := waitLimit, waited := 0 }

theorem test_allocator_witness :
    (told (.record 0) .player (.whisperRequest 1 1 .connect 5 0) (stocked id talking)).finds (.record 0) .player
        (.whisperRequest (entry1 .connect 0).serial (entry1 .connect 0).number .connect 5 0) [] ∧
      (told (.record 0) .player (.announceRequest 1 1 5) (stocked id talking)).finds (.record 0) .player
        (.announceRequest 1 1 5) [] ∧
      (stocked id talking).playerUnit.fault = false ∧ (stocked id talking).promptValid 5 = true ∧
      ((stocked id talking).player 0).role = .pool ∧ ((stocked id talking).player 0).state = .idle ∧
      (∀ k : PlayerNo, ¬(((busyPool talking).player k).role = .pool ∧ ((busyPool talking).player k).state = .idle)) ∧
      talking.promptValid 5 = false ∧ (entry1 .recorded 0).kind ≠ .connect ∧ (entry1 .connect 2).waitLimit ≠ 0 ∧
      talking.playerUnit.queue = [] ++ [] := by
  constructorm* _ ∧ _ <;> first | rfl | decide

theorem test_oneShotsEnd_witness :
    (told (.record 0) .player (.whisperCancel 1 1 .recorded) (busyPool talking)).finds (.record 0) .player
        (.whisperCancel 1 1 .recorded) [] ∧
      (told (.record 0) .player (.announceEnd 1 1 .resumed) talking).finds (.record 0) .player
        (.announceEnd 1 1 .resumed) [] ∧
      (told (.record 0) .player .clearRelease (busyPool talking)).finds (.record 0) .player .clearRelease [] := by
  constructorm* _ ∧ _ <;> rfl

theorem test_players_witness :
    (told (.record 0) .player (.subscribe 1 0) (musical State.reset)).finds (.record 0) .player (.subscribe 1 0) [] ∧
      ((musical State.reset).player 0).role = .music ∧ (State.reset.player 0).role = .pool ∧
      (told (.record 0) .player (.subscribe 1 0) State.reset).finds (.record 0) .player (.subscribe 1 0) [] ∧
      (told (.record 0) .player (.unsubscribe 1 0) State.reset).finds (.record 0) .player (.unsubscribe 1 0) [] ∧
      (told (.record 0) .player (.whisperLimit 60) State.reset).finds (.record 0) .player (.whisperLimit 60) [] ∧
      (told .store .player (.retire 5) State.reset).finds .store .player (.retire 5) [] ∧
      (told .store .player .storeFault (musical State.reset)).finds .store .player .storeFault [] := by
  constructorm* _ ∧ _ <;> rfl

theorem test_music_witness :
    (ask 20 [0, 5, 0, 9] (busyPool State.reset)).admits .a 0 .setMusic (byte 0 :: 5 :: out16 (9 : BitVec 16).toNat) ∧
      ((busyPool State.reset).player 0).assignment.isSome = true ∧
      (ask 20 [0, 5, 0, 9] (musical (stocked id State.reset))).admits .a 0 .setMusic
        (byte 0 :: 5 :: out16 (9 : BitVec 16).toNat) ∧
      ((musical State.reset).player 0).state ≠ .idle ∧ ((musical State.reset).player 0).prompt = some 5 ∧
      (ask 20 [0, 5, 0, 9] (stocked id State.reset)).admits .a 0 .setMusic (byte 0 :: 5 :: out16 (9 : BitVec 16).toNat) ∧
      ((stocked id State.reset).drain .player .store storeTakes).store.state = .ready ∧
      ((stocked id State.reset).drain .player .store storeTakes).entry? 5 = some prompt5 ∧ 0 < prompt5.length.getD 0 ∧
      State.reset.store.state = .starting ∧
      (ask 21 [0] (musical (stocked id State.reset))).admits .a 0 .stopMusic [byte 0] ∧
      (ask 22 [0] (musical (stocked id State.reset))).admits .a 0 .releaseMusic [byte 0] ∧
      ((musical State.reset).player 0).subscribers = [] ∧ (musical State.reset).playerUnit.queue = [] ∧
      (((musical State.reset).modPlayer 0 (fun x => { x with subscribers := [3] })).player 0).subscribers ≠ [] := by
  constructorm* _ ∧ _ <;> first | rfl | decide

theorem test_playerFrame_witness :
    ((due (musical State.reset)).player 0).role = .music ∧ ((due (musical State.reset)).player 0).state = .playing ∧
      64 ≤ ((due (musical State.reset)).player 0).buffer.length ∧
      cutsAt 0 (due ((busyPool State.reset).modPlayer 0 (fun x =>
        { x with state := .playing, playedFrames := 9, limitFrames := 10, buffer := List.replicate 64 0 }))) = true ∧
      waitsOut 0 (due { busyPool State.reset with playerUnit := { (busyPool State.reset).playerUnit with
        queue := [{ entry1 .connect 1 with waited := 249 }] } }) = true := by
  decide +kernel

/-! ### The highway and the links -/

/-- 32 receive samples of 0. -/
def quiet : RxPeriod := Vector.replicate 32 0

theorem test_highwaySync_witness :
    State.reset.highway.sync ≠ .inSync ∧ State.reset.highway.goodCount < 15 ∧
      15 ≤ ({ State.reset with highway := { Highway.reset with goodCount := 15 } } : State).highway.goodCount ∧
      ({ State.reset with highway := { Highway.reset with goodCount := 15 } } : State).highway.sync ≠ .inSync ∧
      (synced (fun h => { h with missCount := 2 })).highway.sync = .inSync ∧
      2 ≤ (synced (fun h => { h with missCount := 2 })).highway.missCount := by
  constructorm* _ ∧ _ <;> first | rfl | decide

theorem test_framePeriods_witness :
    (synced id).highway.sync = .inSync ∧ (synced id).highway.sampleIx < 64 ∧ Claim.noFrameDue (synced id) ∧
      (synced id).highway.missCount < 2 ∧ 64 ≤ (synced (fun h => { h with sampleIx := 64 })).highway.sampleIx ∧
      look (synced (fun h => { h with roles := SlotMap.reset.bindCall 0 3 4 })).highway.roles.rx 3 = .customer 0 := by
  refine ⟨rfl, by decide, ⟨rfl, rfl, rfl, rfl, rfl⟩, by decide, by decide, rfl⟩

theorem test_downstreamFrames_witness :
    ((linked (fun r => { r with linkState := .disabled })).link 0).linkState = .disabled ∧
      ((linked (fun r => { r with present := true })).link 0).linkState = .detect ∧
      ((linked (fun r => { r with present := true })).link 0).present = true ∧
      ((linked (fun r => { r with linkState := .negotiate, phase := some .select, selected := some 2,
                                  attemptFrames := 799 })).link 0).selected = some 2 ∧
      ((linked (fun r => { r with linkState := .recovery, phase := some .probe, attemptFrames := 798 })).link 0).attemptFrames
        < 799 ∧
      ((linked (fun r => { r with linkState := .active, linkFrame := 15999 })).link 0).windowStart + 16000
        ≤ ((linked (fun r => { r with linkState := .active, linkFrame := 15999 })).link 0).linkFrame + 1 ∧
      look ({ synced (fun h => { h with sampleIx := 1 }) with
        bus := { FrameBus.reset with earOut := put FrameBus.reset.earOut 0 (some ([5], [6])) } } : State).bus.earOut 0
        = some ([5], [6]) := by
  constructorm* _ ∧ _ <;> first | rfl | decide

theorem test_upstreamFrames_witness :
    upGood 0x0000A0 = false ∧ upGood 0x0000AA = true ∧ upAck 0x0000AA = true ∧ upPresent 0x0000AA = true ∧
      upGood 0x000088 = true ∧ upAck 0x000088 = false ∧ upPresent 0x000088 = true ∧ upMuteEdge 0x0000CC = true ∧
      ((linked (fun r => { r with linkState := .active, errorCount := 15 })).link 0).errorCount = 15 ∧
      ((linked (fun r => { r with linkState := .active, errorCount := 14 })).link 0).errorCount < 15 ∧
      ((linked (fun r => { r with linkState := .negotiate, phase := some .probe })).link 0).phase = some .probe ∧
      ((linked (fun r => { r with linkState := .recovery, phase := some .select, selected := some 1 })).link 0).selected
        = some 1 := by
  constructorm* _ ∧ _ <;> first | rfl | decide

theorem test_presenceAndAbsence_witness :
    (State.reset.link 0).senseRun < 63 ∧ ((linked (fun r => { r with senseRun := 63 })).link 0).senseRun = 63 ∧
      ((linked (fun r => { r with senseRun := 63, present := true })).link 0).present = true ∧
      upGood 0x000000 = true ∧ upPresent 0x000000 = false ∧ upMuteEdge 0x000000 = false ∧
      (told (.record 0) (.link 0) (.callStarted 1 0) State.reset).finds (.record 0) (.link 0) (.callStarted 1 0) [] ∧
      (told (.record 0) (.link 0) .callEnded State.reset).finds (.record 0) (.link 0) .callEnded [] ∧
      (told (.record 0) (.link 0) (.absenceGrace 9) State.reset).finds (.record 0) (.link 0) (.absenceGrace 9) [] ∧
      ((linked (fun r => { r with absenceTimer := .running 0 })).link 0).absenceTimer = .running 0 := by
  constructorm* _ ∧ _ <;> first | rfl | decide

theorem test_linkRequests_witness :
    (ask 10 [0, 1] State.reset).admits .a 0 .setLink [byte 0, 1] ∧ (ask 10 [0, 3] State.reset).admits .a 0 .setLink [byte 0, 3] ∧
      (ask 11 [0] State.reset).admits .a 0 .linkEnable [byte 0] ∧
      (ask 12 [0] State.reset).admits .a 0 .linkDisable [byte 0] ∧
      (ask 13 [0] State.reset).admits .a 0 .linkRetrain [byte 0] ∧ (State.reset.link 0).linkState = .detect ∧
      ((linked (fun r => { r with linkState := .failed })).link 0).linkState = .failed := by
  constructorm* _ ∧ _ <;> rfl

theorem test_linkFrameChecks_witness :
    upGood 0x1234B5 = true ∧ (0x9 : BitVec 4) ≠ (0x1234B5 : BitVec 24).extractLsb' 4 4 ∧
      (0x123495 : BitVec 24).extractLsb' 4 4 = 0x9 ∧
      (∀ j : Fin 6, j ≠ 1 → (0x123495 : BitVec 24).extractLsb' (4 * j.val) 4
        = (0x1234B5 : BitVec 24).extractLsb' (4 * j.val) 4) ∧ (-32768 : Int) ≤ 32767 := by
  decide

/-! ### The signal path -/

theorem test_signalNotices_witness :
    (told (.record 0) .echo (.callStarted 1 500) State.reset).finds (.record 0) .echo (.callStarted 1 500) [] ∧
      (State.reset.canc ⟨0, .line⟩).blocks = [] ∧ (State.reset.canc ⟨0, .line⟩).mode ≠ .off ∧
      (State.reset.canc ⟨0, .line⟩).requested + (State.reset.canc ⟨0, .acoustic⟩).requested
        ≤ State.reset.echo.free.length ∧
      (told (.record 0) .echo .callEnded State.reset).finds (.record 0) .echo .callEnded [] ∧
      (told (.link 0) .echo .presenceLost State.reset).finds (.link 0) .echo .presenceLost [] ∧
      (told (.record 0) .supp (.callStarted 1 500) State.reset).finds (.record 0) .supp (.callStarted 1 500) [] ∧
      (told (.record 0) .supp .callEnded State.reset).finds (.record 0) .supp .callEnded [] ∧
      (told (.link 0) .supp .presenceLost State.reset).finds (.link 0) .supp .presenceLost [] ∧
      (told (.link 0) .supp (.lanes 2) State.reset).finds (.link 0) .supp (.lanes 2) [] ∧
      (told (.record 0) .supp (.mixState MixRec.reset.copies) State.reset).finds (.record 0) .supp
        (.mixState MixRec.reset.copies) [] := by
  constructorm* _ ∧ _ <;> first | decide +kernel | rfl

theorem test_echoFrame_witness :
    (∀ b : Fin 128, (look (Vector.replicate 128 (List.replicate 64 (0 : Int)) : Table 128 (List Int)) b).length = 64) ∧
      (CancRec.reset .line).adapting [] = false ∧ (CancRec.reset .line).tail = 0 := by
  refine ⟨fun b => by simp, by decide +kernel, by decide +kernel⟩

/-- The fields of a SET_ECHO of the line canceller of position 0: its hangover 15, or 16. -/
def echoBytes (hangover : Byte) : List Byte := [0, 0, 0, 0, 0, 0, 1, hangover, 0]

theorem test_signalSettings_witness :
    (ask 8 (echoBytes 15) State.reset).admits .a 0 .setEcho (echoBytes 15) ∧
      parseSetEcho (echoBytes 15) = some ⟨0, 0, none, none, none, none, some 15, none⟩ ∧
      (SetEchoArgs.checked ⟨0, 0, none, none, none, none, some 15, none⟩)
        = some ⟨.line, none, none, none, none, some 15, none⟩ ∧
      (ask 8 (echoBytes 16) State.reset).admits .a 0 .setEcho (echoBytes 16) ∧
      (SetEchoArgs.checked ⟨0, 0, none, none, none, none, some 16, none⟩) = none ∧
      look State.reset.echo.bound 0 = false ∧
      (ask 9 [0, 1, 16, 0, 0] State.reset).admits .a 0 .setSuppressor [0, 1, 16, 0, 0] ∧
      parseSetSuppressor [0, 1, 16, 0, 0] = some ⟨0, some 16, none, none⟩ ∧
      parseSetSuppressor [0, 1, 17, 0, 0] = some ⟨0, some 17, none, none⟩ := by
  constructorm* _ ∧ _ <;> rfl

/-! ### The store -/

theorem test_storeStart_witness :
    State.reset.store.state = .starting ∧ State.reset.store.startMicros < 1000000 ∧
      1000000 ≤ ({ State.reset with store := { Store.reset with startMicros := 1000000 } } : State).store.startMicros ∧
      ({ State.reset with arbiter := { Arbiter.reset with recovering := some 1000000 } } : State).arbiter.recovering
        = some 1000000 := by
  constructorm* _ ∧ _ <;> first | rfl | decide

/-- The scan reads the header of sector 0 in a flash that holds these first bytes. -/
def scanning (op : ReadReq) (bytes : List Byte) : State :=
  { State.reset with
    store := { Store.reset with state := .scanning }
    arbiter := { Arbiter.reset with current := some (.read op) }
    flash := Memory.writeBytes [] 0 bytes }

theorem test_scan_witness :
    (scanning (.scanHeader 0) []).arbiter.current = some (.read (.scanHeader 0)) ∧
      (readHeader (scanning (.scanHeader 0) []).flash 0).marker = 0xFF ∧
      (let h := readHeader (scanning (.scanHeader 0) [0x3F, 9, 0, 2, 0, 0, 100, 0, 1, 0, 9, 0xFF, 0xFF, 0xFF, 0]).flash 0
       h.marker = 0x3F ∧ h.id = 9 ∧ h.reserved = 2 ∧ h.final = 1 ∧ h.length + 64 ≤ h.final * 4096 ∧ h.labelLength = 0 ∧
         h.loopPoint = 16777215) ∧
      (let h := readHeader (scanning (.scanHeader 0) [0x7F, 9, 0, 2]).flash 0
       h.marker = 0x7F ∧ h.id = 9 ∧ h.reserved = 2) ∧
      (readHeader (scanning (.scanHeader 0) [0x1F, 9, 0, 2]).flash 0).marker = 0x1F ∧
      (readHeader (scanning (.scanHeader 0) [0]).flash 0).marker = 0 ∧
      Memory.wf (scanning (.scanWhole 4095) []).flash = true ∧
      (scanning (.scanWhole 0) [0xFF, 7]).flash.read 1 ≠ 0xFF := by
  constructorm* _ ∧ _ <;> first | rfl | decide

theorem test_arbiterAndReads_witness :
    State.reset.arbiter.current = none ∧ State.reset.arbiter.recovering = none ∧ State.reset.store.state ≠ .fault ∧
      (ask 34 [0, 0, 0, 128] (stocked id State.reset)).admits .a 0 .readStore [0, 0, 0, 128] ∧
      parseReadStore [0, 0, 0, 128] = some (0, 128) ∧ parseReadStore [0xFF, 0xFF, 0xFF, 2] = some (16777215, 2) ∧
      (ask 35 [1] (stocked id State.reset)).admits .a 0 .readNext [1] ∧
      (doing (.read (.port .a 0 0 128)) State.reset).arbiter.current = some (.read (.port .a 0 0 128)) ∧
      (doing (.fetch { player := 0, addr := 64, count := 256 }) State.reset).arbiter.current
        = some (.fetch { player := 0, addr := 64, count := 256 }) ∧
      (((musical State.reset).modPlayer 0 (fun x => { x with fetch := .live })).player 0).fetch ≠ .none := by
  constructorm* _ ∧ _ <;> first | rfl | decide

theorem test_arbiterRank_witness :
    (let a : Arbiter := { Arbiter.reset with fetches := [{ player := 0, addr := 64, count := 256 }] }
     (∀ x ∈ a.fetches, ((0 : PlayerNo).val + 5 - a.pointer.val) % 6 ≤ (x.player.val + 5 - a.pointer.val) % 6)) ∧
      (crowded State.reset).arbiter.jobs = .program 0 [0] (.marker 200) :: List.replicate 15 (.program 0 [0] (.marker 200)) ∧
      (erasing 0 [7]).arbiter.erase = some { sector := 7, micros := 0, suspended := false } := by
  refine ⟨by decide, rfl, rfl⟩

/-- A program of a load of prompt 9 in progress. -/
def programming (owner : JobOwner) (micros : Nat) (f : Session → Session) : State :=
  doing (.program 4096 [0x7F] owner micros) (loading f)

theorem test_programs_witness :
    (programming (.header 9) 5000 id).arbiter.current = some (.program 4096 [0x7F] (.header 9) 5000) ∧
      Memory.wf (programming (.header 9) 5000 id).flash = true ∧
      (loading id).store.session = some session9 ∧ (loading id).store.owedMarker = none ∧ session9.nextStep = none ∧
      (loading id).arbiter.jobs.length < 16 ∧
      (((programming (.header 9) 5000 id).flash.program 4096 [0x7F]).writeBytes 4096 (([] : List Byte).take 1)).verifies
        4096 [0x7F] = true ∧
      (((programming (.header 9) 5000 id).flash.program 4096 [0x7F]).writeBytes 4096 (([0xFF] : List Byte).take 1)).verifies
        4096 [0x7F] = false ∧
      ((loading (fun x => { x with headerPending := false
                                   commit := some { length := 0, final := 1, level := 0, loopPoint := none,
                                                    label := none } })).store.session.map Session.headerPending)
        = some false := by
  constructorm* _ ∧ _ <;> first | rfl | decide

theorem test_erases_witness :
    (erasing 500000 [7, 6]).arbiter.erase = some { sector := 7, micros := 500000, suspended := false } ∧
      (erasing 500001 [7]).arbiter.erase = some { sector := 7, micros := 500001, suspended := false } ∧
      Memory.wf (erasing 500000 [7, 6]).flash = true ∧ (erasing 500000 [7, 6]).store.eraseList
        = [{ todo := 7 :: [6], erased := [8], bad := 0, id := some 5, mark := some .done }] := by
  constructorm* _ ∧ _ <;> rfl

theorem test_loadOpen_witness :
    (ask 23 [9, 0, 15, 0] (stocked id State.reset)).admits .a 0 .loadOpen [9, 0, 15, 0] ∧
      parseLoadOpen [9, 0, 15, 0] = some (9, 3840) ∧ parseLoadOpen [9, 0x3F, 0xFF, 0xC1] = some (9, 4194241) ∧
      parseLoadOpen [0, 0, 0, 0] = some (0, 0) ∧ (stocked id State.reset).store.session = none ∧
      (∀ e ∈ (stocked id State.reset).store.catalogue, e.id ≠ 9) ∧
      look (stocked id State.reset).store.sectors 1 = .free ∧ look (stocked id State.reset).store.sectors 0 ≠ .free ∧
      (stocked id State.reset).arbiter.jobs.length < 16 ∧ 16 ≤ (crowded State.reset).arbiter.jobs.length := by
  constructorm* _ ∧ _ <;> first | rfl | decide

theorem test_loadData_witness :
    (ask 24 [1, 5] (loading id)).admits .a 0 .loadData [1, 5] ∧ parseLoadData [1, 5] = some [5] ∧
      (loading id).store.state = .ready ∧ session9.owner = .a ∧ session9.state = .opened ∧ 192 % 256 = 192 ∧
      session9.cursor < 192 ∧ 192 ≤ session9.cursor + 256 ∧ session9.staging.length = 256 ∧
      (ask 24 [1, 5] (loading (fun x => { x with cursor := 191 }))).admits .a 0 .loadData [1, 5] ∧
      (ask 24 [2, 5, 6] (loading (fun x => { x with cursor := 191 }))).admits .a 0 .loadData [2, 5, 6] ∧
      parseLoadData [2, 5, 6] = some [5, 6] := by
  constructorm* _ ∧ _ <;> first | decide +kernel | rfl

theorem test_loadsEnd_witness :
    (ask 25 [0, 0, 0, 0, 9, 0, 0] (loading id)).admits .a 0 .loadCommit [0, 0, 0, 0, 9, 0, 0] ∧
      parseLoadCommit [0, 0, 0, 0, 9, 0, 0] = some ⟨0, 9, none, none⟩ ∧
      parseLoadCommit [0, 0, 1, 0, 9, 0, 0] = some ⟨1, 9, none, none⟩ ∧
      (ask 26 [] (loading id)).admits .a 0 .loadAbandon [] ∧ (loading id).store.session = some session9 ∧
      ((loading (fun x => { x with idle := some 0 })).store.session.bind Session.idle) = some 0 ∧
      (64 + 100) % 256 ≠ 0 ∧ (List.replicate 32 (0x41 : Byte)).length ≤ 32 := by
  constructorm* _ ∧ _ <;> first | rfl | decide

theorem test_retirement_witness :
    (ask 27 [5] (stocked id State.reset)).admits .a 0 .retirePrompt [5] ∧
      (stocked id State.reset).entry? 5 = some prompt5 ∧ prompt5.state = .valid ∧ prompt5.musicRefs = 0 ∧
      (stocked (fun e => { e with musicRefs := 1 }) State.reset).entry? 5 = some { prompt5 with musicRefs := 1 } ∧
      (told .player .store (.takeUp 0 5) (stocked id State.reset)).finds .player .store (.takeUp 0 5) [] ∧
      (told .player .store (.entryJoined 5) (stocked id State.reset)).finds .player .store (.entryJoined 5) [] ∧
      (told .player .store (.letGo 0 true 5) (stocked id State.reset)).finds .player .store (.letGo 0 true 5) [] ∧
      (told .player .store (.entryLeft 5) (stocked id State.reset)).finds .player .store (.entryLeft 5) [] ∧
      (told .player .store (.retireAck 5) (stocked id State.reset)).finds .player .store (.retireAck 5) [] ∧
      (stocked id State.reset).store.entrySectors prompt5 = [0] := by
  constructorm* _ ∧ _ <;> rfl


/-! ### Refusals, and the forms beside the plain ones -/

theorem test_a_whole_intake_answer_is_not_cut_short :
    (Instr.transactionAborted .a [1, 7, 0, 1, 33, 0, 0, 0]).wellFormed = false ∧
      (Instr.transactionAborted .a [1, 7, 0, 1, 33, 0, 0]).wellFormed = true ∧
      (Instr.transactionAborted .a [9, 7, 0, 1, 0, 0, 0]).wellFormed = false ∧
      (Instr.transactionAborted .a [1, 7, 0]).wellFormed = true := by
  decide

/-- The state after a command. -/
def done (c : Instr) (s : State) : State :=
  match exec c s with
  | .next t => t
  | _ => s

/-- 11_command_ports_and_events.md, R180: zeros follow the intake answer, and an abort loses its rest alone. -/
theorem test_zeros_follow_the_intake_answer :
    (done (.portWrite .a [1, 7, 0, 1, 33, 9, 9, 9, 9, 9]) State.reset).portA.dataOut = [0, 7, 1, 0, 0] ∧
      (done (.portWrite .a [1, 7, 0, 1, 33]) State.reset).portA.dataOut = [0, 7, 1] ∧
      (done (.transactionAborted .a [1, 7, 0, 1, 33, 9, 9]) State.reset).portA.dataOut = [0, 7] := by
  decide +kernel

theorem test_aborted_write_witness :
    ([5] : List Byte).length < (0 : Byte).toNat * 256 + (2 : Byte).toNat ∧ ([1, 7, 0] : List Byte).length < 4 ∧
      (List.replicate 510 (0 : Byte)).length ≤ 510 ∧ ([9, 9] : List Byte).length < 3 ∧
      exec (.portWrite .a ([0x01, 7] ++ bigEndian 2 1 ++ 33 :: [])) State.reset
        = .next (done (.portWrite .a [1, 7, 0, 1, 33]) State.reset) ∧
      exec (.portWrite .a [9, 7, 0, 1]) State.reset = .next (done (.portWrite .a [9, 7, 0, 1]) State.reset) := by
  refine ⟨by decide, by decide, by decide +kernel, by decide, rfl, rfl⟩

/-- Slot 0 of Port A waits for its owner, and slot 1 holds a request for the same owner that the port controller has to check. -/
def queuedBehind (code : Byte) (payload : List Byte) : State :=
  { talking with portA := { talking.portA with
      slots := put (put talking.portA.slots 0 (.request 1 4 [0] true)) 1 (.request 2 code payload false)
      intake := [0, 1] } }

/-- 11_command_ports_and_events.md, R184: a request that the port controller refuses waits for no owner. -/
theorem test_a_refused_request_waits_for_none :
    (done (.hold .a 1) (queuedBehind 2 [0])).portA.answered = [1] ∧
      (done (.whisper .a 1) (queuedBehind 14 [0, 5])).portA.answered = [1] ∧
      (done (.clear .a 1) (queuedBehind 5 [0])).portA.answered = [] := by
  decide +kernel

/-- Port A has an accepted read in slot 0 at the arbiter, and slot 1 holds a further one. -/
def reading (payload : List Byte) : State :=
  { doing (.read (.port .a 0 0 2)) (stocked id State.reset) with portA := { State.reset.portA with
      slots := put (put State.reset.portA.slots 0 (.request 1 34 [0, 0, 0, 2] true)) 1 (.request 2 34 payload true)
      intake := [1], reads := [(0, none)] } }

/-- 10_loading_and_reading_prompts.md, R179: each port's reads are answered in the order that port sent them. -/
theorem test_a_refused_read_is_answered_in_its_turn :
    (done (.readStore .a 1) (reading [0, 0, 0, 0])).portA.answered = [] ∧
      (done .storeReadDone (done (.readStore .a 1) (reading [0, 0, 0, 0]))).portA.answered = [0, 1] := by
  decide +kernel

theorem test_deferred_reads_witness :
    (reading [0, 0, 0, 0]).admits .a 1 .readStore [0, 0, 0, 0] ∧ parseReadStore [0, 0, 0, 0] = some (0, 0) ∧
      ((reading [0, 0, 0, 0]).port .a).reads ≠ [] ∧
      (reading [0, 0, 0, 0]).arbiter.current = some (.read (.port .a 0 0 2)) ∧
      ({ (reading []).portA with
        slots := put (reading []).portA.slots 1 (.request 2 34 [] false) } : Port).admission 1 .readStore = .refused .range := by
  constructorm* _ ∧ _ <;> first | rfl | decide

theorem test_deferredSound_witness : (reading [0, 0, 0, 0]).DeferredSound where
  accepted port := by cases port <;> decide +kernel
  head port i st h := by
    cases port
    · have : some ((0 : ReqSlot), (none : Option Status)) = some (i, some st) := h
      simp at this
    · have : (none : Option (ReqSlot × Option Status)) = some (i, some st) := h
      simp at this
  once port := by cases port <;> decide +kernel
  taken port := by
    cases port
    · intro i hi
      obtain rfl : i = 0 := by revert hi; revert i; decide +kernel
      exact ⟨by decide +kernel, 1, 34, [0, 0, 0, 2], true, rfl⟩
    · intro i hi
      exact absurd hi (by revert i; decide +kernel)

theorem test_call_refusals_witness :
    parseHold (16 :: holdBytes.tail) = some ⟨16, none, none, 60, 0, 0⟩ ∧
      (ask 2 (16 :: holdBytes.tail) talking).admits .a 0 .hold (16 :: holdBytes.tail) ∧
      (ask 3 (16 :: holdBytes.tail) talking).admits .a 0 .setHold (16 :: holdBytes.tail) ∧
      (ask 2 holdBytes State.reset).admits .a 0 .hold holdBytes ∧ (State.reset.pos 0).callState = .idle ∧
      holdChecked ⟨0, none, none, 60, 2, 0⟩ talking = .error .range ∧ (2 : Nat) ≤ 2 ∧
      (ask 4 [16] talking).admits .a 0 .unhold [16] ∧ 16 ≤ (16 : Byte).toNat ∧
      (ask 4 [0] talking).admits .a 0 .unhold [byte 0] ∧ (talking.pos 0).callState ≠ .held ∧
      (ask 5 [16] talking).admits .a 0 .clear [16] ∧ (ask 5 [0] State.reset).admits .a 0 .clear [byte 0] ∧
      (ask 6 [16, 1] talking).admits .a 0 .setMute [16, 1] ∧ (ask 6 [0, 2] talking).admits .a 0 .setMute [0, 2] ∧
      2 ≤ (2 : Byte).toNat ∧ parseSetPosition (16 :: limitBytes.tail) = some ⟨16, none, none, none, none, none, none, none, some 60, none⟩ ∧
      (ask 7 (16 :: limitBytes.tail) State.reset).admits .a 0 .setPosition (16 :: limitBytes.tail) := by
  constructorm* _ ∧ _ <;> first | rfl | decide

theorem test_query_refusals_witness :
    (ask 28 [16] State.reset).admits .a 0 .queryPosition [16] ∧ (ask 29 [6] State.reset).admits .a 0 .queryPlayer [6] ∧
      (ask 30 [0] State.reset).admits .a 0 .queryPrompt [0] ∧
      (ask 30 [7] State.reset).admits .a 0 .queryPrompt [7] ∧ State.reset.store.state = .starting ∧
      (stocked id State.reset).entry? (7 : Byte).toNat = none ∧ (ask 31 [0] State.reset).admits .a 0 .listPrompts [0] ∧
      (ask 31 [1] State.reset).admits .a 0 .listPrompts [1] := by
  constructorm* _ ∧ _ <;> rfl

/-- The agent of position 0 is absent before its connect whisper has ended. -/
def leftEarly : State := whispered.modPos 0 (fun r => { r with agentAbsent := true })

theorem test_whisper_and_coach_refusals_witness :
    (ask 14 [16, 5] State.reset).admits .a 0 .whisper [16, 5] ∧ (ask 15 [16] State.reset).admits .a 0 .cancelWhisper [16] ∧
      (ask 15 [0] leftEarly).admits .a 0 .cancelWhisper [byte 0] ∧ (leftEarly.pos 0).callState = .preconnect ∧
      ((leftEarly.pos 0).agentAbsent && (leftEarly.pos 0).absenceHold) = true ∧
      (ask 16 [4, 1, 9, 0] State.reset).admits .a 0 .setCoachSource
        (4 :: outOpt (fun b => [b]) (some (9 : Byte)) ++ outOpt (fun b => [b]) (none : Option Byte)) ∧
      (ask 16 [0, 1, 32, 0] State.reset).admits .a 0 .setCoachSource
        (0 :: outOpt (fun b => [b]) (some (32 : Byte)) ++ outOpt (fun b => [b]) (none : Option Byte)) ∧
      (ask 17 [4, 0, 1] State.reset).admits .a 0 .attachCoach [4, 0, 1] ∧
      (ask 17 [0, 16, 1] State.reset).admits .a 0 .attachCoach [0, 16, 1] ∧
      (ask 17 [0, 0, 3] State.reset).admits .a 0 .attachCoach [0, 0, 3] ∧ 3 ≤ (3 : Byte).toNat ∧
      (ask 17 [0, 0, 1] attached).admits .a 0 .attachCoach (byte 0 :: byte 0 :: outCoachMode .coach) ∧
      (attached.source 0).attachment ≠ .unattached ∧
      (ask 17 [0, 0, 1] State.reset).admits .a 0 .attachCoach (byte 0 :: byte 0 :: outCoachMode .coach) ∧
      (State.reset.source 0).rxSlot = none ∧ (State.reset.source 0).txSlot = none ∧
      (ask 19 [4] State.reset).admits .a 0 .detachCoach [4] ∧
      (ask 18 [0, 1, 3, 0] State.reset).admits .a 0 .setCoachMode
        (0 :: outOpt (fun b => [b]) (some (3 : Byte)) ++ outOpt (fun l : BitVec 16 => out16 l.toNat) none) := by
  constructorm* _ ∧ _ <;> first | rfl | decide

/-- Player 0 plays music, every other player serves a position, and a request for prompt 5 waits. -/
def lastPlayer : State :=
  let s := stocked id (musical (busyPool State.reset))
  { s.modPlayer 0 (fun x => { x with assignment := none }) with playerUnit :=
    { (s.modPlayer 0 (fun x => { x with assignment := none })).playerUnit with queue := [entry1 .recorded 0] } }

theorem test_music_refusals_witness :
    (ask 20 [6, 5, 0, 9] State.reset).admits .a 0 .setMusic (6 :: 5 :: out16 (9 : BitVec 16).toNat) ∧
      6 ≤ (6 : Byte).toNat ∧ (ask 21 [6] State.reset).admits .a 0 .stopMusic [6] ∧
      (ask 22 [6] State.reset).admits .a 0 .releaseMusic [6] ∧ (ask 21 [0] State.reset).admits .a 0 .stopMusic [byte 0] ∧
      (ask 22 [0] State.reset).admits .a 0 .releaseMusic [byte 0] ∧ State.reset.store.state = .starting ∧
      ({ State.reset with store := { Store.reset with state := .fault } } : State).store.state = .fault ∧
      (stocked id State.reset).store.state = .ready ∧ ((stocked id State.reset).player 0).role = .pool ∧
      (ask 22 [0] lastPlayer).admits .a 0 .releaseMusic [byte 0] ∧ lastPlayer.store.state = .ready ∧
      (lastPlayer.player 0).role = .music ∧ (lastPlayer.player 0).subscribers = [] ∧
      lastPlayer.playerUnit.queue = entry1 .recorded 0 :: [] ∧
      lastPlayer.entry? (entry1 .recorded 0).prompt = some prompt5 ∧
      (∀ j : PlayerNo, j ≠ 0 → ¬((lastPlayer.player j).role = .pool ∧ (lastPlayer.player j).state = .idle)) := by
  constructorm* _ ∧ _ <;> first | rfl | decide +kernel

/-- Position 0 held, with a limit and an announcement that both fall due at the next boundary. -/
def limits : State := due (holding.modSeq 0 (fun r => { r with limit := some 10, nextAnnounce := some 10 }))

theorem test_frame_forms_witness :
    limits.bus.holdDue = true ∧ (limits.seq 0).counting = true ∧
      (limits.seq 0).limit.any (fun l => decide (l ≤ (limits.seq 0).elapsed + 1)) = true ∧
      (limits.seq 0).limitReported = false ∧ (limits.seq 0).nextAnnounce = some ((limits.seq 0).elapsed + 1) ∧
      ((due (musical State.reset)).player 0).assignment = none ∧
      ((due (musical State.reset)).player 0).cursor < ((due (musical State.reset)).player 0).length ∧
      Claim.playsFrame ((due (musical State.reset)).player 0) = true ∧
      Claim.asksAtFrame 0 ((due (musical State.reset)).player 0) = true ∧
      Claim.shotOver 0 { (busyPool State.reset).player 0 with
        state := .playing, length := 64, buffer := List.replicate 64 0 } = some .ended ∧
      Claim.shotOver 0 { (busyPool State.reset).player 0 with
        state := .playing, limitFrames := 1, buffer := List.replicate 65 0 } = some .cut ∧
      Claim.leavesPriming { (busyPool State.reset).player 0 with buffer := List.replicate 256 0 } = true := by
  decide +kernel

/-! ### Late pulses, presence reports and link refusals -/

/-- 02_the_line_highway_and_the_processing_frame.md, R32 and R34: a late third pulse 512 bit clocks after the candidate counts 2,
and any other misplaced pulse 1. -/
theorem test_a_late_third_pulse_counts_on :
    goodAfterPulse true 100 (some 412) = 2 ∧ goodAfterPulse true 1 (some 511) = 2 ∧ goodAfterPulse true 101 (some 412) = 1 ∧
      goodAfterPulse false 100 (some 412) = 1 ∧ goodAfterPulse true 100 none = 1 ∧
      (done (.misplacedSync true 100 quiet)
        (synced (fun h => { h with missCount := 2, sinceMisplaced := some 412 }))).highway.goodCount = 2 := by
  refine ⟨by decide, by decide, by decide, by decide, by decide, by decide +kernel⟩

theorem test_presence_reports_witness :
    upGood 0x000000 = true ∧ upPresent 0x000000 = false ∧
      ((linked (fun r => { r with present := true, linkState := .active })).link 0).present = true ∧
      ((linked (fun r => { r with present := true, linkState := .active })).link 0).linkState = .active ∧
      ((linked (fun r => { r with present := true, linkState := .recovery })).link 0).linkState ≠ .disabled ∧
      ((linked (fun r => { r with present := true, linkState := .recovery })).link 0).linkState ≠ .active ∧
      upGood 0x000044 = true ∧ upMuteEdge 0x000044 = true ∧ upPresent 0x000044 = false := by
  constructorm* _ ∧ _ <;> first | rfl | decide

theorem test_link_refusals_witness :
    (ask 10 [16, 1] State.reset).admits .a 0 .setLink [16, 1] ∧ (ask 11 [16] State.reset).admits .a 0 .linkEnable [16] ∧
      (ask 12 [16] State.reset).admits .a 0 .linkDisable [16] ∧
      (ask 13 [16] State.reset).admits .a 0 .linkRetrain [16] := by
  constructorm* _ ∧ _ <;> rfl

/-! ### Bound positions in the signal path -/

/-- Position 0 is bound, its cancellers hold the eight lowest blocks, and every frame is due. -/
def boundEcho : State :=
  due { State.reset with echo := { EchoUnit.reset with
    line := put EchoUnit.reset.line 0 { CancRec.reset .line with blocks := (List.finRange 128).take 6 }
    acoustic := put EchoUnit.reset.acoustic 0
      { CancRec.reset .acoustic with blocks := ((List.finRange 128).drop 6).take 2 }
    bound := put EchoUnit.reset.bound 0 true
    free := (List.finRange 128).drop 8 } }

theorem test_boundEcho_filters_witness : boundEcho.FiltersSound where
  taps := by decide +kernel
  line := by decide +kernel
  acoustic := by decide +kernel
  tail := by rintro ⟨p, k⟩; cases k <;> revert p <;> decide +kernel
  idle := by rintro ⟨p, k⟩; cases k <;> revert p <;> decide +kernel
  waits := by rintro ⟨p, k⟩; cases k <;> revert p <;> decide +kernel
  once := by decide +kernel
  ascending := by decide +kernel
  noneFree := by decide +kernel

theorem test_boundEcho_witness :
    boundEcho.poolSound ∧ boundEcho.bus.echoDue = true ∧ look boundEcho.echo.bound 0 = true ∧
      Claim.tailOf (boundEcho.canc ⟨0, .line⟩) = 384 ∧ Claim.tailOf (boundEcho.canc ⟨0, .acoustic⟩) = 128 := by
  refine ⟨?_, rfl, rfl, by decide +kernel, by decide +kernel⟩
  unfold State.poolSound
  decide +kernel

/-- The fields of a SET_ECHO of the line canceller of position 0 that turns it off and asks for 9 blocks. -/
def offBytes : List Byte := [0, 0, 1, 0, 1, 9, 0, 0, 0, 0]

theorem test_bound_settings_witness :
    (ask 8 offBytes boundEcho).admits .a 0 .setEcho offBytes ∧
      parseSetEcho offBytes = some ⟨0, 0, some 0, some 9, none, none, none, none⟩ ∧
      SetEchoArgs.checked ⟨0, 0, some 0, some 9, none, none, none, none⟩
        = some ⟨.line, some .off, some 9, none, none, none, none⟩ ∧
      (ask 8 (16 :: offBytes.tail) State.reset).admits .a 0 .setEcho (16 :: offBytes.tail) ∧
      parseSetEcho (16 :: offBytes.tail) = some ⟨16, 0, some 0, some 9, none, none, none, none⟩ ∧
      (ask 9 [16, 0, 0, 0] State.reset).admits .a 0 .setSuppressor [16, 0, 0, 0] ∧
      parseSetSuppressor [16, 0, 0, 0] = some ⟨16, none, none, none⟩ := by
  constructorm* _ ∧ _ <;> rfl

/-- Position 0 is bound at the suppressor, and the mixer's frame alone is due. -/
def mixing : State :=
  { State.reset with
    bus := { State.reset.bus with mixDue := true }
    supp := put State.reset.supp 0 { look State.reset.supp 0 with bound := true } }

theorem test_mixing_witness :
    mixing.framesSound ∧ mixing.bus.mixDue = true ∧ mixing.bus.echoDue = false ∧ mixing.bus.coachDue = false ∧
      mixing.bus.playerDue = false ∧ (look mixing.supp 0).bound = true ∧ look mixing.echo.bound 0 = false ∧
      look ({ mixing with echo := boundEcho.echo } : State).echo.bound 0 = true := by
  refine ⟨fun p o h => ?_, rfl, rfl, rfl, rfl, rfl, rfl, rfl⟩
  have none : ∀ p : Pos, look mixing.bus.echoOut p = none := by decide +kernel
  simp [none p] at h

/-- 04_echo_cancellers_and_the_tap_pool.md, R60: a history whose position is not bound receives nothing. -/
theorem test_an_unbound_history_receives_nothing :
    (appendReference ⟨0, .line⟩ (List.replicate 64 1) mixing).canc ⟨0, .line⟩ = mixing.canc ⟨0, .line⟩ ∧
      ((appendReference ⟨0, .line⟩ (List.replicate 64 1) boundEcho).canc ⟨0, .line⟩).history.drop 1024
        = List.replicate 64 1 := by
  decide +kernel

/-! ### The scan and the store's ends -/

/-- 09_the_prompt_store.md, R159: the erase of a torn load found at sector 0 is under way while the scan has read sector 2. -/
theorem test_a_found_run_is_erased_while_the_scan_goes_on :
    (let s := done .scanRead (done .arbiterStart (done .scanRead (scanning (.scanHeader 0) [0x7F, 9, 0, 2])))
     s.arbiter.erase = some { sector := 1, micros := 0, suspended := false } ∧ s.arbiter.reads = [.scanWhole 2] ∧
       s.store.state = .scanning) := by
  decide +kernel

/-- The scan reads the header of the last sector. -/
def atTheEnd (bytes : List Byte) : State :=
  { scanning (.scanHeader 4095) [] with flash := Memory.writeBytes [] (4095 * 4096) bytes }

theorem test_scan_forms_witness :
    (let h := readHeader (scanning (.scanHeader 0) [0x3F, 9, 0, 1, 0, 0, 100, 0, 2, 0, 9, 0xFF, 0xFF, 0xFF, 0]).flash 0
     h.marker = 0x3F ∧ h.reserved < h.final) ∧
      (let h := readHeader (scanning (.scanHeader 0) [0x7F, 0, 0, 2]).flash 0
       h.marker = 0x7F ∧ h.id = 0) ∧
      (let h := readHeader (scanning (.scanHeader 0) [0x1F, 9, 0, 0]).flash 0
       h.marker = 0x1F ∧ h.reserved = 0) ∧
      (let h := readHeader (atTheEnd [0x7F, 9, 0, 1]).flash (4095 * 4096)
       h.marker = 0x7F ∧ 1 ≤ h.id ∧ 1 ≤ h.reserved ∧ h.reserved ≤ 1024 ∧ 4095 + h.reserved ≤ 4096) ∧
      (readHeader (atTheEnd [0x7F, 9, 0, 2]).flash (4095 * 4096)).reserved = 2 ∧
      (done .scanRead (atTheEnd [0x7F, 9, 0, 1])).store.state = .ready := by
  decide +kernel

theorem test_store_ends_witness :
    (∀ i start count, (stocked id State.reset).arbiter.current ≠ some (.read (.port .a i start count))) ∧
      (stocked (fun e => { e with reserved := 0 }) State.reset).store.entrySectors { prompt5 with reserved := 0 } = [] ∧
      State.reset.arbiter.jobs = [] ∧ State.reset.arbiter.erase = none := by
  refine ⟨fun i start count h => ?_, rfl, rfl, rfl⟩
  have : none = some (ArbOp.read (.port .a i start count)) := h
  simp at this

/-! ### What a CLEAR, a whisper and a SET_POSITION answer -/

/-- A CLEAR of position 0, whose call holds the receive slot 3 and the transmit slot 4, stands in slot 0 of Port A. -/
def clearing : State := ask 5 [0] { talking with slotMap := SlotMap.reset.bindCall 0 3 4 }

/-- 01_positions_and_calls.md, "Procedure: moving a call from one position to another": the slots are free once the CLEAR is taken, and so when it is
answered. -/
theorem test_a_clear_is_answered_once_its_slots_are_free :
    (let s := done (.clear .a 0) clearing
     s.portA.answered = [] ∧ look s.slotMap.rx 3 = .customer 0 ∧ (s.pos 0).callState = .idle) ∧
      (let s := done (.slotRelease 0) (done (.clear .a 0) clearing)
       s.portA.answered = [0] ∧ look s.slotMap.rx 3 = .unbound ∧ look s.slotMap.tx 4 = .unbound ∧
         look s.portA.slots 0 = .response { tag := 7, code := 5, status := .ok, payload := [0] }) := by
  decide +kernel

theorem test_a_pending_clear_is_deferred_soundly : (done (.clear .a 0) clearing).DeferredSound where
  accepted port := by cases port <;> decide +kernel
  head port i st h := by
    have : ((done (.clear .a 0) clearing).port port).reads = [] := by cases port <;> decide +kernel
    rw [this] at h
    cases h
  once port := by cases port <;> decide +kernel
  taken port := by
    cases port
    · intro i hi
      obtain rfl : i = 0 := by revert hi; revert i; decide +kernel
      exact ⟨by decide +kernel, 7, 5, [0], true, by decide +kernel⟩
    · intro i hi
      exact absurd hi (by revert i; decide +kernel)

/-- 06_whisper_and_coaching.md, R107 and R109: the answer of WHISPER carries the whisper_number, and that of CANCEL_WHISPER no
field. -/
theorem test_whisper_answers_its_number_alone :
    look (done (.whisper .a 0) (ask 14 [0, 5] (stocked id talking))).portA.slots 0
        = .response { tag := 7, code := 14, status := .ok, payload := [1] } ∧
      look (done (.cancelWhisper .a 0) (ask 15 [0] whispered)).portA.slots 0
        = .response { tag := 7, code := 15, status := .ok, payload := [] } := by
  decide +kernel

theorem test_setPosition_fields_witness :
    (ask 7 [0, 0, 0, 0, 1, 2, 0, 0, 0, 0, 0] State.reset).admits .a 0 .setPosition [0, 0, 0, 0, 1, 2, 0, 0, 0, 0, 0] ∧
      parseSetPosition [0, 0, 0, 0, 1, 2, 0, 0, 0, 0, 0] =
        some ⟨0, none, none, none, some 2, none, none, none, none, none⟩ ∧
      parseSetPosition [0, 0, 0, 0, 0, 0, 1, 2, 0, 0, 0] =
        some ⟨0, none, none, none, none, none, some 2, none, none, none⟩ ∧
      parseSetPosition [0, 0, 0, 0, 0, 0, 0, 1, 2, 0, 0] =
        some ⟨0, none, none, none, none, none, none, some 2, none, none⟩ ∧
      SetPositionArgs.checked ⟨0, some 65535, none, none, some 1, some 5000, some 0, some 1, some 60, some 10⟩ =
        some ⟨some 65535, none, none, some .right, some 5000, some false, some true, some 60, some 10⟩ := by
  constructorm* _ ∧ _ <;> rfl

theorem test_signal_fields_witness :
    parseSetEcho [0, 1, 1, 2, 1, 4, 1, 6, 1, 4, 1, 15, 1, 0xFF, 0xFF] =
        some ⟨0, 1, some 2, some 4, some 6, some 4, some 15, some 65535⟩ ∧
      SetEchoArgs.checked ⟨0, 1, some 2, some 4, some 6, some 4, some 15, some 65535⟩ =
        some ⟨.acoustic, some .adapt, some 4, some 6, some 4, some 15, some 65535⟩ ∧
      parseSetSuppressor [0, 0, 0, 1, 2] = some ⟨0, none, none, some 2⟩ ∧
      (ask 9 [0, 0, 0, 1, 2] State.reset).admits .a 0 .setSuppressor [0, 0, 0, 1, 2] ∧
      look (done (.setSuppressor .a 0) (ask 9 [0, 0, 0, 1, 2] State.reset)).portA.slots 0
        = .response { tag := 7, code := 9, status := .range, payload := [] } := by
  refine ⟨rfl, rfl, rfl, rfl, by decide +kernel⟩

/-! ### The tap pool when it is short -/

/-- Three blocks are free, and position 1 holds four. -/
def shortPool : State :=
  { State.reset with echo := { EchoUnit.reset with
    line := put EchoUnit.reset.line 1 { CancRec.reset .line with blocks := [20, 23, 22, 21] }
    bound := put EchoUnit.reset.bound 1 true
    free := [5, 8, 9] } }

/-- The call of position 0 has started on that pool. -/
def shortCall : State := done (.echoCallStarted 0) (told (.record 0) .echo (.callStarted 1 500) shortPool)

/-- 04_echo_cancellers_and_the_tap_pool.md, R73 to R75: the call that finds the pool short waits, and the blocks of the call that
ends go to its cancellers in ascending order. -/
theorem test_a_short_call_waits_and_is_topped_up :
    (shortCall.canc ⟨0, .line⟩).blocks = [5, 8, 9] ∧ shortCall.echo.waiting = [⟨0, .line⟩, ⟨0, .acoustic⟩] ∧
      shortCall.raised.map (fun r => r.event) = [.tapShort 0 .line 6 3, .tapShort 0 .acoustic 2 0] ∧
      (let s := done (.echoCallEnded 1) (told (.record 1) .echo .callEnded { shortCall with raised := [] })
       (s.canc ⟨0, .line⟩).blocks = [5, 8, 9, 20, 21, 22] ∧ (s.canc ⟨0, .acoustic⟩).blocks = [23] ∧
         s.echo.waiting = [⟨0, .acoustic⟩] ∧ s.echo.free = [] ∧
         s.raised.map (fun r => r.event) = [.tapToppedUp 0 .line 6 6, .tapToppedUp 0 .acoustic 2 1]) := by
  decide +kernel

theorem test_echoCallEnds_witness :
    (told (.record 0) .echo .callEnded boundEcho).FiltersSound ∧
      (told (.record 0) .echo .callEnded boundEcho).finds (.record 0) .echo .callEnded [] :=
  have h := test_boundEcho_filters_witness
  ⟨⟨h.taps, h.line, h.acoustic, h.tail, h.idle, h.waits, h.once, h.ascending, h.noneFree⟩, rfl⟩

/-! ### One-shots that end while others wait -/

/-- A request of position 1 for prompt 5 as it waits. -/
def other : QueueEntry := { entry1 .announce 0 with position := 1, number := 2 }

/-- Every player serves position 0, and an entry of position 0 waits before one of position 1. -/
def crowdedPool : State :=
  let s := busyPool (stocked id talking)
  { s with playerUnit := { s.playerUnit with queue := [{ entry1 .recorded 0 with number := 2 }, other] } }

/-- 08_prompt_players.md, R147 and R148: the entries of another position stay, and the first of them is granted. -/
theorem test_a_clear_leaves_other_entries :
    (let s := done (.playerClearRelease 0) (told (.record 0) .player .clearRelease crowdedPool)
     s.playerUnit.queue = [] ∧ (s.player 0).assignment = some other.assignment ∧ (s.player 1).idlePool = true ∧
       noticesBetween .player (.record 1) s.notices = [.announceGranted 1 2 0] ∧
       noticesBetween .player (.record 0) s.notices = [] ∧
       (noticesBetween .player .store s.notices).take 2 = [.entryLeft 5, .letGo 0 false 5] ∧
       (noticesBetween .player .store s.notices).drop 7 = [.takeUp 0 5, .entryLeft 5]) ∧
      (told (.record 0) .player .clearRelease crowdedPool).finds (.record 0) .player .clearRelease [] := by
  refine ⟨by decide +kernel, rfl⟩

/-- 08_prompt_players.md, R149 and R150: what the records and the store are told of the entries that leave. -/
theorem test_entries_leave_with_notice :
    (let s := done .retireNotice (told .store .player (.retire 5) crowdedPool)
     s.playerUnit.queue = [] ∧ noticesBetween .player (.record 0) s.notices = [.whisperOver 1 2 .skipped] ∧
       noticesBetween .player (.record 1) s.notices = [.announceOver 1 2] ∧
       noticesBetween .player .store s.notices = [.entryLeft 5, .entryLeft 5, .retireAck 5]) ∧
      (let s := done .storeFaultNotice (told .store .player .storeFault (musical crowdedPool))
       s.playerUnit.queue = [] ∧ noticesBetween .player (.record 0) s.notices = [.whisperOver 1 2 .skipped] ∧
         noticesBetween .player .store s.notices = [.letGo 0 true 5, .entryLeft 5, .entryLeft 5]) := by
  decide +kernel

/-- Player 0 plays the last 64 bytes of its one-shot, and a request of position 1 waits. -/
def lastFrame : State :=
  let s := crowdedPool.modPlayer 0 (fun x =>
    { x with state := .playing, length := 64, limitFrames := 10, buffer := List.replicate 64 0x4F })
  due { s with playerUnit := { s.playerUnit with queue := [other] } }

/-- A player released and granted anew at one boundary hands the mixer the last frame of its old one-shot (assumption 8). -/
theorem test_a_regranted_player_hands_its_last_frame :
    (lastFrame.player 0).role = .pool ∧ (lastFrame.player 0).assignment =
        some { position := 0, serial := 1, kind := .recorded, number := 1 } ∧
      (let s := done .playerFrame lastFrame
       (s.player 0).assignment = some other.assignment ∧ (s.player 0).state = .priming ∧
         look s.bus.playerOut 0 = some { samples := List.replicate 64 3968, level := 0, playing := true, subscribers := [],
                                         served := some (0, .recorded) }) := by
  decide +kernel

/-! ### Steps of a load that wait -/

/-- A session of prompt 9 in COMMITTING. -/
def committing (x : Session) : Session :=
  { x with state := .committing, commit := some { length := 0, final := 1, level := 9, loopPoint := none, label := none } }

/-- 10_loading_and_reading_prompts.md, R175: a commit step waits for the header program, and for a place in a full queue, and
takes the first place that frees. -/
theorem test_a_commit_step_waits :
    (let s := done (.programDone []) (programming (.header 9) 9 (fun x => { committing x with nextStep := some .fields }))
     s.arbiter.jobs.length = 1 ∧ s.store.session.map (fun x => (x.headerPending, x.commitStep, x.nextStep))
       = some (false, some .fields, none)) ∧
      (let s := done (.programDone []) (crowded (programming (.commit 9 .fields) 9 (fun x =>
          { committing x with headerPending := false, commitStep := some .fields })))
       s.arbiter.jobs.length = 16 ∧
         s.store.session.map (fun x => (x.commitStep, x.nextStep)) = some (none, some .marker) ∧
         (done .arbiterStart s).arbiter.jobs.drop 15 = [.program 4096 [0x3F] (.commit 9 .marker)] ∧
         (done .arbiterStart s).store.session.bind Session.commitStep = some .marker) := by
  decide +kernel

/-- 10_loading_and_reading_prompts.md, R177: the marker job of a failed load waits while the queue is full. -/
theorem test_a_failed_load_marks_when_a_place_frees :
    (let s := done (.programTimeout []) (crowded (programming (.page 9) 5001 id))
     s.store.session = none ∧ s.arbiter.jobs.length = 16 ∧
       s.store.owedMarker.isSome = true) ∧
      (let s := done .arbiterStart { crowded (loading id) with store := { (loading id).store with
          session := none, owedMarker := some (.program 4096 [0x1F] (.marker 9)) } }
       s.arbiter.jobs.drop 15 = [.program 4096 [0x1F] (.marker 9)] ∧ s.store.owedMarker = none) := by
  decide +kernel

theorem test_load_refusals_witness :
    (ask 24 [1, 5] State.reset).admits .a 0 .loadData [1, 5] ∧ State.reset.store.state = .starting ∧
      (ask 25 [0, 0, 0, 0, 9, 0, 0] State.reset).admits .a 0 .loadCommit [0, 0, 0, 0, 9, 0, 0] ∧
      (ask 25 [0, 0, 0, 0, 9, 0, 0] (stocked id State.reset)).admits .a 0 .loadCommit [0, 0, 0, 0, 9, 0, 0] ∧
      (stocked id State.reset).store.state = .ready ∧ (stocked id State.reset).store.session = none := by
  constructorm* _ ∧ _ <;> rfl

/-- An inconsistent header with marker 0x3F counts as an invalid sector, though its id has been found (assumption 29). -/
theorem test_an_inconsistent_duplicate_is_invalid :
    (let s := scanning (.scanHeader 0) [0x3F, 5, 0, 1, 0, 0, 100, 0, 2, 0, 9, 0xFF, 0xFF, 0xFF, 0]
     let t := done .scanRead { s with store := { s.store with scan := { Scan.reset with held := [prompt5] } } }
     t.store.scan.invalid = 1 ∧ t.store.scan.retired = 0 ∧ t.store.scan.next = 1) := by
  decide +kernel

/-! ### The erase list's turn, ended loads and the bytes of a commit -/

/-- 09_the_prompt_store.md, R165: the next sector of the head run is queued as the erase before it ends, or as the first place
frees. -/
theorem test_a_run_feeds_the_job_queue :
    (done .eraseDone (erasing 500000 [7, 6])).arbiter.jobs = [.erase 6] ∧
      (done (.eraseTimeout []) (erasing 500001 [7, 6])).arbiter.jobs = [.erase 6] ∧
      (done .eraseDone (erasing 500000 [7])).arbiter.jobs = [] ∧
      (let full := (crowded State.reset).arbiter.jobs
       let s := erasing 500000 [7, 6]
       let t := done .eraseDone { s with arbiter := { s.arbiter with jobs := full } }
       t.arbiter.jobs = full ∧ (done .arbiterStart t).arbiter.jobs.drop 15 = [.erase 6]) := by
  decide +kernel

theorem test_none_waits_witness :
    Claim.noneWaitsForPlace (erasing 500000 [7, 6]) ∧ Claim.noneWaitsForPlace (loading id) := by
  refine ⟨⟨rfl, fun x h => ?_⟩, rfl, fun x h => ?_⟩
  · have : none = some x := h
    simp at this
  · have : some session9 = some x := h
    obtain rfl : session9 = x := by simpa using this
    exact .inl rfl

/-- A retired prompt that only an entry of the wait queue still names, in a store of some state. -/
def lastNamed (state : StoreState) : State :=
  let s := stocked (fun e => { e with state := .retiring, retireAcked := true, mark := some .done, queueRefs := 1 }) State.reset
  told .player .store (.entryLeft 5) { s with store := { s.store with state := state } }

/-- 09_the_prompt_store.md, R168: the deferred erase, in FAULT too (assumption 51). -/
theorem test_a_deferred_erase_is_queued :
    (done .entryLeft (lastNamed .ready)).arbiter.jobs = [.erase 0] ∧
      (done .entryLeft (lastNamed .fault)).arbiter.jobs = [.erase 0] ∧
      (done .entryLeft (lastNamed .fault)).store.catalogue = [] := by
  decide +kernel

/-- A program of a load of prompt 9 whose session has ended. -/
def orphan (owner : JobOwner) (micros : Nat) : State :=
  let s := programming owner micros id
  { s with store := { s.store with session := none } }

/-- 10_loading_and_reading_prompts.md, R177: it tells nobody that it completed, and its failure raises SECTOR_BAD alone. -/
theorem test_a_program_outlives_its_load :
    (let t := done (.programDone []) (orphan (.page 9) 5000)
     look t.store.sectors 1 = .allocated 9 ∧ t.store.catalogue = [Entry.opened 9 1 1] ∧ t.raised = []) ∧
      (let t := done (.programDone [0xFF]) (orphan (.header 9) 5000)
       t.arbiter.jobs = [] ∧ t.store.session = none ∧
         t.raised.map Raised.event = [.sectorBad 1 .program .verify (some 9)]) ∧
      (let t := done (.programTimeout []) (orphan (.commit 9 .fields) 5001)
       t.raised.map Raised.event = [.sectorBad 1 .program .timeout (some 9)]) := by
  decide +kernel

/-- 10_loading_and_reading_prompts.md, R175: the FIELDS and MARKER programs of prompt 9, which begins at sector 1. -/
theorem test_the_commit_programs :
    (committing session9).stepJob .fields =
        .program 4100 ([0, 0, 0, 0, 1, 0, 9, 0xFF, 0xFF, 0xFF, 0] ++ List.replicate 32 0xFF) (.commit 9 .fields) ∧
      (committing session9).stepJob .marker = .program 4096 [0x3F] (.commit 9 .marker) := by
  decide +kernel

/-- 09_the_prompt_store.md, R161: a FAULT entered in SCANNING discards what the scan has found. -/
theorem test_a_fault_discards_the_scan :
    (let s := scanning (.scanHeader 0) []
     let t := done .stuckTimeout { s with
       store := { s.store with scan := { Scan.reset with held := [prompt5], valid := 1 } }
       arbiter := { s.arbiter with recovering := some 1000000 } }
     t.store.state = .fault ∧ t.store.scan = .reset ∧ t.store.catalogue = []) := by
  decide +kernel

/-! ### What a boundary, a misplaced pulse and a monitor carry -/

/-- The last sample period of a frame period is over. Link 0 has been in ACTIVE throughout it, and link 1 has just come there;
so has link 3 throughout it, but it does not hold the position bound. -/
def micsFull : State :=
  let s := synced (fun h => { h with sampleIx := 64 })
  let full := fun (bound : Bool) (r : LinkRec) =>
    { r with linkState := .active, callBound := bound, mic := Vector.replicate 64 (some 5) }
  let s := (s.modLink 0 (full true)).modLink 3 (full false)
  s.modLink 1 (fun r =>
    { r with linkState := .active, callBound := true, mic := put (Vector.replicate 64 none) 63 (some 5) })

/-- 05_suppression_comfort_noise_and_the_mixes.md, R84: mic_whole and the link state come with the microphone input, and a link
that does not hold the position bound hands nothing. -/
theorem test_the_boundary_hands_the_flags :
    ((done .frameBoundary micsFull).bus.mics.toList.take 4).map (fun x => (x.whole, x.active, x.samples.take 1))
      = [(true, true, [5]), (false, true, [0]), (false, false, []), (false, false, [])] := by
  decide +kernel

/-- 01_positions_and_calls.md, R5: the response of a refused HOLD carries the position, also where the port controller refuses it;
that of a WHISPER refused by the charter carries nothing. -/
theorem test_a_refusal_carries_the_position :
    look ((done (.hold .a 0) { State.reset with portA := asking 2 [9] }).port .a).slots 0
        = .response { tag := 7, code := 2, status := .range, payload := [9] } ∧
      look ((done (.whisper .a 0) { State.reset with portA := asking 14 [0, 5] }).port .a).slots 0
        = .response { tag := 7, code := 14, status := .charter, payload := [] } := by
  decide +kernel

/-- 02_the_line_highway_and_the_processing_frame.md, R32 and R34: the distance to the next expected instant, and the start of the
measure of a loss. -/
theorem test_a_misplaced_pulse_is_measured :
    (done (.misplacedSync true 100 quiet) (synced id)).highway.sinceMisplaced = some 412 ∧
      (done (.misplacedSync false 100 quiet) (synced id)).highway.sinceMisplaced = some 612 ∧
      (done (.syncMiss none) (done (.misplacedSync true 100 quiet) (synced id))).highway.sinceMisplaced = some 924 ∧
      (done (.syncPulse quiet) (synced (fun h => { h with sinceMisplaced := some 9 }))).highway.sinceMisplaced = none ∧
      (done (.syncMiss none) (synced (fun h => { h with missCount := 2, lossMicros := 7 }))).highway.lossMicros = 0 := by
  decide +kernel

/-- 05_suppression_comfort_noise_and_the_mixes.md, R100: the monitor of a source attached to a position that is not bound. -/
theorem test_an_unbound_position_is_not_monitored :
    (let out : CoachOut := { voice := List.replicate 64 7, position := 1, mode := .coach, level := 9, active := true }
     let s := { mixing with bus := { mixing.bus with coachOut := put mixing.bus.coachOut 2 (some out) } }
     (look s.supp out.position).bound = false ∧
       look (done .mixFrame s).bus.monitorOut 2 = some (List.replicate 64 0)) := by
  decide +kernel

/-- 11_command_ports_and_events.md, R181, and 09_the_prompt_store.md, R154: the counts of STORE_READY (assumption 12). -/
theorem test_store_ready_counts : (Event.storeReady 3 1 0 2 5).payload = [3, 0, 1, 0, 0, 0, 2, 0, 5] := by decide

/-! ### Torn resets, misses at a boundary, quiet links, payloads and answers -/

theorem test_reset_forms_witness :
    (programming (.header 9) 7 id).arbiter.erase = none ∧ (erasing 5 [7]).arbiter.current = none ∧
      Memory.wf (erasing 5 [7]).flash = true := by
  refine ⟨rfl, rfl, by decide⟩

/-- 09_the_prompt_store.md, R152: a reset that cuts off a program leaves what the outside says in the program's byte alone. -/
theorem test_a_reset_tears_a_program :
    (List.range 3).map (fun k => (done (.reset .pin [0x7E, 0x01]) (programming (.header 9) 7 id)).flash.read (4095 + k))
      = [0xFF, 0x7E, 0xFF] := by
  decide +kernel

theorem test_periodBegins_witness :
    (let s := synced (fun h => { h with sampleIx := 64, missCount := 1 })
     64 ≤ s.highway.sampleIx ∧ Claim.periodBegins s (.syncMiss none) none 2 none ∧
       Claim.periodBegins s (.misplacedSync true 100 quiet) (some quiet) 2 (some 412) ∧
       Claim.periodBegins s (.syncPulse quiet) (some quiet) 0 none) := by
  refine ⟨by decide, .inr (.inl ⟨rfl, by decide, rfl, rfl⟩), .inr (.inr ⟨true, 100, quiet, rfl, rfl, by decide, rfl, rfl⟩),
    .inl ⟨quiet, rfl, rfl, rfl, rfl⟩⟩

/-- 02_the_line_highway_and_the_processing_frame.md, R30 and R32: a second miss at the instant that ends a frame period. -/
theorem test_a_miss_opens_a_frame_period :
    (let h := (done (.syncMiss none) (synced (fun h => { h with sampleIx := 64, missCount := 1 }))).highway
     (h.frameCounter, h.missCount, h.sampleIx, h.collected.length) = (1, 2, 1, 1)) := by
  decide +kernel

theorem test_quiet_links_witness :
    ((linked (fun r => { r with linkState := .failed })).link 0).linkState = .failed ∧
      ((linked id).link 0).linkState = .detect ∧ ((linked id).link 0).present = false ∧
      (let r := (linked (fun r => { r with linkState := .active, linkFrame := 15998 })).link 0
       r.linkState = .active ∧ r.linkFrame + 1 < r.windowStart + 16000) := by
  refine ⟨rfl, rfl, rfl, rfl, by decide⟩

/-- 11_command_ports_and_events.md, R181: the payloads of the load requests and of READ_STORE. -/
theorem test_load_payloads :
    parseLoadOpen [9, 1, 2, 3] = some (9, 66051) ∧ parseLoadOpen [9, 1, 2, 3, 4] = none ∧
      parseLoadData [2, 7, 8] = some [7, 8] ∧ parseLoadData [2, 7] = none ∧
      (parseLoadData (0 :: List.replicate 256 7)).map List.length = some 256 ∧
      parseLoadCommit [0, 1, 0, 0x40, 0, 0, 1, 2, 65, 66] =
        some { length := 256, level := 16384, loopPoint := none, label := some [65, 66] } ∧
      parseReadStore [1, 2, 3, 4] = some (66051, 4) := by
  decide +kernel

/-- 08_prompt_players.md, R139 and R147: a player released at the boundary keeps its level, its subscribers and underrun_count. -/
theorem test_a_released_player_keeps_its_counts :
    Claim.comesFree 0 { (busyPool State.reset).player 0 with
        state := .playing, length := 64, buffer := List.replicate 64 0, level := 31, underrunCount := 3 } =
      { (busyPool State.reset).player 0 with
          role := .pool, state := .idle, prompt := none, length := 64, buffer := [], level := 31, underrunCount := 3,
          cursor := 64, playedFrames := 1, assignment := none } := by
  decide +kernel

/-- 09_the_prompt_store.md, R170: LIST_PROMPTS of the one prompt that a store holds (the layout: assumptions 12 and 23). -/
theorem test_a_listed_prompt :
    (let s := stocked (fun e => { e with length := some 500, level := some 16384, label := some [65] }) State.reset
     Claim.listReport s 1 = [1, 5, 1, 1, 0, 1, 0xF4, 1, 0x40, 0, 1, 1, 65, 0] ∧ Claim.listReport s 6 = [0, 0]) := by
  decide +kernel


end Sys2Proof.Tests
end

