-- ==== Sys2Proof/Proofs/StaleNotices.lean ====
section
/-!
PROOF. R4: the record takes a notice of another call, or one that finds it IDLE, off its way and does nothing else. First what
each of the seven commands does with the notice it finds, then what a record that is not in the notice's call makes of it.
-/

namespace Sys2Proof.Machine

/-! ### The record's notice commands on the notice they find -/

/-- R3: the notice that stands at the head of its channel is the one taken, and only the notices on their way change. -/
theorem State.takeNotice_of_finds {s : State} {src dst : Block} {x : Tidings} {ns : List Notice}
    (h : s.finds src dst x ns) : s.takeNotice src dst = some (x, { s with notices := ns }) := by
  rw [State.finds] at h
  simp only [State.takeNotice, h, Option.map_some]

section FoundNotices

variable {s : State} {p : Pos} {serial number : Byte} {k : PlayerNo} {outcome : WhisperOutcome} {ns : List Notice}

theorem exec_absenceExpiry_of_finds (h : s.finds (.link p) (.record p) (.absenceExpiry serial) ns) :
    exec (.absenceExpiry p) s = .next (takeExpiry p serial { s with notices := ns }) := by
  change execAbsenceExpiry p s = _
  rw [execAbsenceExpiry, State.takeNotice_of_finds h]

theorem exec_returnNotice_of_finds (h : s.finds (.link p) (.record p) (.linkReturn serial) ns) :
    exec (.returnNotice p) s = .next (takeReturn p serial { s with notices := ns }) := by
  change execReturnNotice p s = _
  rw [execReturnNotice, State.takeNotice_of_finds h]

theorem exec_whisperGrantedNotice_of_finds (h : s.finds .player (.record p) (.whisperGranted serial number k) ns) :
    exec (.whisperGrantedNotice p) s = .next (takeWhisperGranted p serial number k { s with notices := ns }) := by
  change execWhisperGrantedNotice p s = _
  rw [execWhisperGrantedNotice, State.takeNotice_of_finds h]

theorem exec_whisperEndNotice_of_finds (h : s.finds .player (.record p) (.whisperOver serial number outcome) ns) :
    exec (.whisperEndNotice p) s = .next (takeWhisperOver p serial number outcome { s with notices := ns }) := by
  change execWhisperEndNotice p s = _
  rw [execWhisperEndNotice, State.takeNotice_of_finds h]

theorem exec_announceGrantedNotice_of_finds (h : s.finds .player (.record p) (.announceGranted serial number k) ns) :
    exec (.announceGrantedNotice p) s = .next (takeAnnounceGranted p serial number k { s with notices := ns }) := by
  change execAnnounceGrantedNotice p s = _
  rw [execAnnounceGrantedNotice, State.takeNotice_of_finds h]

theorem exec_announceEndNotice_of_finds (h : s.finds .player (.record p) (.announceOver serial number) ns) :
    exec (.announceEndNotice p) s = .next (takeAnnounceOver p serial number { s with notices := ns }) := by
  change execAnnounceEndNotice p s = _
  rw [execAnnounceEndNotice, State.takeNotice_of_finds h]

theorem exec_subscriptionRefused_of_finds (h : s.finds .player (.record p) (.subscriptionRefused serial k) ns) :
    exec (.subscriptionRefused p) s = .next (takeRefusal p serial k { s with notices := ns }) := by
  change execSubscriptionRefused p s = _
  rw [execSubscriptionRefused, State.takeNotice_of_finds h]

end FoundNotices

/-! ### A record that is not in the notice's call -/

theorem PosRec.current_eq_false_iff {r : PosRec} {serial : Byte} :
    r.current serial = false ↔ r.callState = .idle ∨ r.callSerial ≠ serial := by
  simp only [PosRec.current, decide_eq_false_iff_not, not_and_or, not_not, ne_eq]

theorem PosRec.whisperIs_of_not_current {r : PosRec} {serial : Byte} (h : r.current serial = false) (number : Byte) :
    r.whisperIs serial number = false := by
  rw [PosRec.whisperIs, h, Bool.false_and]

theorem PosRec.announcementIs_of_not_current {r : PosRec} {serial : Byte} (h : r.current serial = false)
    (number : Byte) : r.announcementIs serial number = false := by
  rw [PosRec.announcementIs, h, Bool.false_and]

section NotCurrent

variable {s : State} {p : Pos} {serial : Byte} (h : (s.pos p).current serial = false)
include h

theorem takeExpiry_of_not_current : takeExpiry p serial s = s :=
  if_neg (by simp [h])

theorem takeReturn_of_not_current : takeReturn p serial s = s :=
  if_neg (by simp [h])

theorem takeWhisperGranted_of_not_current (number : Byte) (k : PlayerNo) :
    takeWhisperGranted p serial number k s = s :=
  if_neg (by simp [PosRec.whisperIs_of_not_current h])

theorem takeWhisperOver_of_not_current (number : Byte) (outcome : WhisperOutcome) :
    takeWhisperOver p serial number outcome s = s :=
  if_neg (by simp [PosRec.whisperIs_of_not_current h])

theorem takeAnnounceGranted_of_not_current (number : Byte) (k : PlayerNo) :
    takeAnnounceGranted p serial number k s = s :=
  if_neg (by simp [PosRec.announcementIs_of_not_current h])

theorem takeAnnounceOver_of_not_current (number : Byte) : takeAnnounceOver p serial number s = s :=
  if_neg (by simp [PosRec.announcementIs_of_not_current h])

theorem takeRefusal_of_not_current (k : PlayerNo) : takeRefusal p serial k s = s :=
  if_neg (by simp [h])

end NotCurrent

/-- Settles O20: each command applies its effect to the state without the notice, whose record is the record before, and that
record does not take a notice of this call. -/
theorem staleNoticesAreDiscarded : Obligations.StaleNoticesAreDiscarded := by
  intro s p serial number k outcome ns stale
  have notCurrent : (({ s with notices := ns } : State).pos p).current serial = false :=
    PosRec.current_eq_false_iff.mpr stale
  refine ⟨fun found => ?expiry, fun found => ?linkReturn, fun found => ?whisperGranted, fun found => ?whisperOver,
    fun found => ?announceGranted, fun found => ?announceOver, fun found => ?refusal⟩
  case expiry => rw [exec_absenceExpiry_of_finds found, takeExpiry_of_not_current notCurrent]
  case linkReturn => rw [exec_returnNotice_of_finds found, takeReturn_of_not_current notCurrent]
  case whisperGranted => rw [exec_whisperGrantedNotice_of_finds found, takeWhisperGranted_of_not_current notCurrent]
  case whisperOver => rw [exec_whisperEndNotice_of_finds found, takeWhisperOver_of_not_current notCurrent]
  case announceGranted => rw [exec_announceGrantedNotice_of_finds found, takeAnnounceGranted_of_not_current notCurrent]
  case announceOver => rw [exec_announceEndNotice_of_finds found, takeAnnounceOver_of_not_current notCurrent]
  case refusal => rw [exec_subscriptionRefused_of_finds found, takeRefusal_of_not_current notCurrent]

end Sys2Proof.Machine
end

