-- ==== Sys2Proof/Proofs/LogEightSamples.lean ====
section
/-!
PROOF. R136: the log-8 byte. Segment and mantissa together are the low seven bits of the byte, one number from 0 to 127; the
magnitude rises with that number, within a segment and from the last mantissa of a segment to the first of the next. The
bounds of a sample and the order of the samples follow from that one fact.
-/

namespace Sys2Proof.Machine

/-! ### The magnitude of a segment and a mantissa -/

theorem logMagnitude_segment_zero (m : Nat) : logMagnitude 0 m = m * 16 := if_pos rfl

theorem logMagnitude_segment_succ (s m : Nat) : logMagnitude (s + 1) m = (16 + m) * 2 ^ (s + 4) :=
  if_neg (Nat.succ_ne_zero s)

theorem logMagnitude_lt_next_mantissa (s m : Nat) : logMagnitude s m < logMagnitude s (m + 1) := by
  cases s with
  | zero =>
    rw [logMagnitude_segment_zero, logMagnitude_segment_zero]
    omega
  | succ s =>
    rw [logMagnitude_segment_succ, logMagnitude_segment_succ]
    exact Nat.mul_lt_mul_of_pos_right (by omega) (Nat.two_pow_pos _)

theorem logMagnitude_lt_next_segment (s : Nat) : logMagnitude s 15 < logMagnitude (s + 1) 0 := by
  cases s with
  | zero => decide
  | succ s =>
    have positive : 0 < 2 ^ (s + 4) := Nat.two_pow_pos _
    have doubled : 2 ^ (s + 1 + 4) = 2 ^ (s + 4) * 2 := pow_succ 2 (s + 4)
    rw [logMagnitude_segment_succ, logMagnitude_segment_succ, doubled]
    omega

/-! ### The magnitude of a code: segment and mantissa as one number -/

/-- The magnitude of the byte whose low seven bits are `n`: segment `n / 16` and mantissa `n % 16`. -/
def codeMagnitude (n : Nat) : Nat := logMagnitude (n / 16) (n % 16)

theorem codeMagnitude_lt_succ (n : Nat) : codeMagnitude n < codeMagnitude (n + 1) := by
  rw [codeMagnitude, codeMagnitude]
  by_cases last : n % 16 = 15
  case pos =>
    have nextSegment : (n + 1) / 16 = n / 16 + 1 := by omega
    have firstMantissa : (n + 1) % 16 = 0 := by omega
    rw [nextSegment, firstMantissa, last]
    exact logMagnitude_lt_next_segment _
  case neg =>
    have sameSegment : (n + 1) / 16 = n / 16 := by omega
    have nextMantissa : (n + 1) % 16 = n % 16 + 1 := by omega
    rw [sameSegment, nextMantissa]
    exact logMagnitude_lt_next_mantissa _ _

theorem codeMagnitude_strictMono : StrictMono codeMagnitude := strictMono_nat_of_lt_succ codeMagnitude_lt_succ

theorem codeMagnitude_le_31744 {n : Nat} (h : n < 128) : codeMagnitude n ≤ 31744 :=
  calc codeMagnitude n ≤ codeMagnitude 127 := codeMagnitude_strictMono.monotone (Nat.le_of_lt_succ h)
    _ = 31744 := by decide

/-! ### The sample of a byte -/

theorem logSample_eq_logMagnitude (b : Byte) :
    logSample b =
      let x : Int := logMagnitude (b.toNat / 16 % 8) (b.toNat % 16)
      if 128 ≤ b.toNat then -x else x := by
  have segment : (b.extractLsb' 4 3).toNat = b.toNat / 16 % 8 := by
    rw [BitVec.extractLsb'_toNat, Nat.shiftRight_eq_div_pow]
  have mantissa : (b.extractLsb' 0 4).toNat = b.toNat % 16 := by
    rw [BitVec.extractLsb'_toNat, Nat.shiftRight_zero]
  have sign : b.msb = decide (128 ≤ b.toNat) := BitVec.msb_eq_decide b
  simp only [logSample, segment, mantissa, sign, decide_eq_true_eq]

theorem logMagnitude_eq_codeMagnitude (n : Nat) : logMagnitude (n / 16 % 8) (n % 16) = codeMagnitude (n % 128) := by
  have segment : n / 16 % 8 = n % 128 / 16 := by omega
  have mantissa : n % 16 = n % 128 % 16 := by omega
  rw [codeMagnitude, segment, ← mantissa]

theorem logSample_of_sign_clear {b : Byte} (h : b.toNat < 128) : logSample b = codeMagnitude b.toNat := by
  rw [logSample_eq_logMagnitude, logMagnitude_eq_codeMagnitude, Nat.mod_eq_of_lt h]
  exact if_neg (Nat.not_le_of_lt h)

theorem logSample_of_sign_set {b : Byte} (h : 128 ≤ b.toNat) : logSample b = -codeMagnitude (b.toNat - 128) := by
  have code : b.toNat % 128 = b.toNat - 128 := by omega
  rw [logSample_eq_logMagnitude, logMagnitude_eq_codeMagnitude, code]
  exact if_pos h

theorem logSample_mem_range (b : Byte) : -31744 ≤ logSample b ∧ logSample b ≤ 31744 := by
  by_cases sign : b.toNat < 128
  case pos =>
    have bound := codeMagnitude_le_31744 sign
    rw [logSample_of_sign_clear sign]
    omega
  case neg =>
    have bound : codeMagnitude (b.toNat - 128) ≤ 31744 := codeMagnitude_le_31744 (by omega)
    rw [logSample_of_sign_set (Nat.le_of_not_lt sign)]
    omega

theorem toNat_or_signBit {b : Byte} (h : b.toNat < 128) : (b ||| 0x80).toNat = b.toNat + 128 := by
  have disjoint : 2 ^ 7 * 1 + b.toNat = 2 ^ 7 * 1 ||| b.toNat := Nat.two_pow_add_eq_or_of_lt h 1
  calc (b ||| 0x80).toNat = b.toNat ||| 2 ^ 7 * 1 := BitVec.toNat_or b 0x80
    _ = 2 ^ 7 * 1 + b.toNat := by rw [Nat.lor_comm, disjoint]
    _ = b.toNat + 128 := Nat.add_comm _ _

theorem logSample_or_signBit {b : Byte} (h : b.toNat < 128) : logSample (b ||| 0x80) = -logSample b := by
  have signed : (b ||| 0x80).toNat = b.toNat + 128 := toNat_or_signBit h
  rw [logSample_of_sign_set (by omega), signed, Nat.add_sub_cancel, logSample_of_sign_clear h]

theorem logSample_lt_logSample {b c : Byte} (less : b.toNat < c.toNat) (h : c.toNat < 128) :
    logSample b < logSample c := by
  rw [logSample_of_sign_clear (less.trans h), logSample_of_sign_clear h]
  exact_mod_cast codeMagnitude_strictMono less

/-- Settles O29: the first part is `logSample` over the byte's number; the others follow from the rise of the magnitude with
the code. -/
theorem logEightSamples : Obligations.LogEightSamples :=
  ⟨logSample_eq_logMagnitude, logSample_mem_range, fun _ => logSample_or_signBit, fun _ _ => logSample_lt_logSample⟩

end Sys2Proof.Machine
end

