-- ==== Sys2Proof/Proofs/ResetPorts.lean ====
section
/-!
PROOF. R189: what a reset leaves at each port. A reset gives every port `Port.reset`, whatever the state before it; R189's
queues, cursor and counts are the same at both ports, and only the charter and the subscriptions tell them apart.
-/

namespace Sys2Proof.Machine

/-! ### The attention line -/

/-- R185: the line is read off the two queues. -/
theorem Port.attention_eq_true_iff {x : Port} : x.attention = true ↔ x.answered ≠ [] ∨ x.events ≠ [] := by
  simp [Port.attention]

/-! ### A port after reset, the same at both ports -/

section PortReset

variable (cause : ResetCause) (port : PortId)

@[simp] theorem Port.reset_slots : (Port.reset cause port).slots = Vector.replicate 4 .empty := by cases port <;> rfl

@[simp] theorem Port.reset_intake : (Port.reset cause port).intake = [] := by cases port <;> rfl

@[simp] theorem Port.reset_answered : (Port.reset cause port).answered = [] := by cases port <;> rfl

@[simp] theorem Port.reset_latched : (Port.reset cause port).latched = false := by cases port <;> rfl

/-- R189: RESTART is the one event of the queue, with sequence number 0 and frame stamp 0. -/
@[simp] theorem Port.reset_events :
    (Port.reset cause port).events = [{ seq := 0, stamp := 0, event := .restart cause }] := by cases port <;> rfl

/-- R189: RESTART took number 0, so that the next event takes 1. -/
@[simp] theorem Port.reset_seq : (Port.reset cause port).seq = 1 := by cases port <;> rfl

@[simp] theorem Port.reset_overflow : (Port.reset cause port).overflow = false := by cases port <;> rfl

@[simp] theorem Port.reset_lost : (Port.reset cause port).lost = 0 := by cases port <;> rfl

@[simp] theorem Port.reset_lostFaults : (Port.reset cause port).lostFaults = 0 := by cases port <;> rfl

@[simp] theorem Port.reset_readCursor : (Port.reset cause port).readCursor = 0 := by cases port <;> rfl

/-- R185, R189: the RESTART event that waits asserts the line. -/
theorem Port.reset_attention : (Port.reset cause port).attention = true := by
  have waits : (Port.reset cause port).events ≠ [] := by simp
  exact Port.attention_eq_true_iff.mpr (.inr waits)

end PortReset

/-! ### RESET -/

section Reset

variable (cause : ResetCause) (torn : List Byte) (s : State)

theorem exec_reset : exec (.reset cause torn) s = .next (resetState cause torn s) := rfl

theorem resetState_portA : (resetState cause torn s).portA = Port.reset cause .a := rfl

theorem resetState_portB : (resetState cause torn s).portB = Port.reset cause .b := rfl

theorem resetState_port (port : PortId) : (resetState cause torn s).port port = Port.reset cause port := by
  cases port
  case a => exact resetState_portA cause torn s
  case b => exact resetState_portB cause torn s

theorem resetState_resetCause : (resetState cause torn s).resetCause = cause := rfl

end Reset

/-- Settles O4: every port is `Port.reset`, whose queues are the same at both ports; the charter and the subscriptions are
those of each port's own arm. -/
theorem resetLeavesThePorts : Obligations.ResetLeavesThePorts := by
  intro cause torn s
  refine ⟨resetState cause torn s, exec_reset cause torn s, fun port => ?bothPorts, ?charterA, ?charterB, ?subsA, ?subsB,
    resetState_resetCause cause torn s⟩
  case bothPorts =>
    have line := Port.reset_attention cause port
    rw [resetState_port]
    simp [line]
  case charterA => rw [resetState_portA, Port.reset]
  case charterB => rw [resetState_portB, Port.reset]
  case subsA => rw [resetState_portA, Port.reset]
  case subsB => rw [resetState_portB, Port.reset]

end Sys2Proof.Machine
end
